-- ==== Sys2Proof/Word.lean ====
section
/-!
DEFINITION. The two word types of the engine: the byte (registers A, X, Y, SP, P and one memory
byte) and the 16-bit word (PC and every address). 00_scope.md R7, R10; 10_state.md R20, R21.

Both are bit vectors, so that every sum wraps at 8 or at 16 bits by construction (R21: "A model
that types the registers as 8-bit and 16-bit words keeps this by construction").
-/

namespace Sys2Proof

/-- An 8-bit value, bits numbered from 0, the least significant (R10). -/
abbrev Byte := BitVec 8

/-- A 16-bit value: PC, an address, a pointer, a vector (R7, R40). -/
abbrev Word := BitVec 16

end Sys2Proof
end

