-- ==== Sys2Proof/Syntax.lean ====
section
/-!
DEFINITION. The instructions. `Instr` has one constructor for each of the 256 rows of
spec/opcode_table.json: the 151 documented opcodes, each with the operand bytes its addressing mode
takes, and the 105 unassigned bytes (30_encoding.md R76, R77). `Mnemonic`, `Mode` and `Operand` are
the vocabulary of the rules: a documented instruction is an operation applied to an operand in one
of the 13 addressing modes (R61, R62).
-/

namespace Sys2Proof

/-- The 13 addressing-mode tags (00_scope.md R17, 30_encoding.md R61). -/
inductive Mode where
  | imp  -- implied
  | acc  -- accumulator
  | imm  -- immediate
  | zp   -- zero-page
  | zpx  -- zero-page-X
  | zpy  -- zero-page-Y
  | abs  -- absolute
  | absx -- absolute-X
  | absy -- absolute-Y
  | ind  -- indirect (JMP only)
  | indx -- indexed-indirect, `(zp,X)`
  | indy -- indirect-indexed, `(zp),Y`
  | rel  -- relative (branches only)
  deriving DecidableEq, Repr

/-- The 56 documented mnemonics, in the order of R76's table. -/
inductive Mnemonic where
  | adc | and | asl | bcc | bcs | beq | bit | bmi
  | bne | bpl | brk | bvc | bvs | clc | cld | cli
  | clv | cmp | cpx | cpy | dec | dex | dey | eor
  | inc | inx | iny | jmp | jsr | lda | ldx | ldy
  | lsr | nop | ora | pha | php | pla | plp | rol
  | ror | rti | rts | sbc | sec | sed | sei | sta
  | stx | sty | tax | tay | tsx | txa | txs | tya
  deriving DecidableEq, Repr

/-- An operand: the addressing mode with the operand field of its format (R61). An 8-bit field is
the byte after the opcode, a 16-bit field is `b2:b1` (R63). -/
inductive Operand where
  | imp
  | acc
  | imm (v : Byte)
  | zp (z : Byte)
  | zpx (z : Byte)
  | zpy (z : Byte)
  | abs (a : Word)
  | absx (a : Word)
  | absy (a : Word)
  | ind (ptr : Word)
  | indx (z : Byte)
  | indy (z : Byte)
  | rel (d : Byte)
  deriving DecidableEq, Repr

/-- What a decoder entry says (R62): an operation with its operand, or an unassigned byte. -/
inductive Shape where
  | documented (mn : Mnemonic) (o : Operand)
  | unassigned (b0 : Byte)
  deriving DecidableEq, Repr

/-- The instructions, one constructor per row of spec/opcode_table.json: the documented opcodes in
the table's order, then the unassigned bytes. A constructor's name is its mnemonic followed by its
mode (no suffix for a mnemonic with one mode only, implied or relative); `unassignedXX` is the
unassigned byte 0xXX. `v`, `z`, `a`, `ptr` and `d` are the operand fields of R61. -/
inductive Instr where
  | brk
  | oraIndx (z : Byte)
  | oraZp (z : Byte)
  | aslZp (z : Byte)
  | php
  | oraImm (v : Byte)
  | aslAcc
  | oraAbs (a : Word)
  | aslAbs (a : Word)
  | bpl (d : Byte)
  | oraIndy (z : Byte)
  | oraZpx (z : Byte)
  | aslZpx (z : Byte)
  | clc
  | oraAbsy (a : Word)
  | oraAbsx (a : Word)
  | aslAbsx (a : Word)
  | jsr (a : Word)
  | andIndx (z : Byte)
  | bitZp (z : Byte)
  | andZp (z : Byte)
  | rolZp (z : Byte)
  | plp
  | andImm (v : Byte)
  | rolAcc
  | bitAbs (a : Word)
  | andAbs (a : Word)
  | rolAbs (a : Word)
  | bmi (d : Byte)
  | andIndy (z : Byte)
  | andZpx (z : Byte)
  | rolZpx (z : Byte)
  | sec
  | andAbsy (a : Word)
  | andAbsx (a : Word)
  | rolAbsx (a : Word)
  | rti
  | eorIndx (z : Byte)
  | eorZp (z : Byte)
  | lsrZp (z : Byte)
  | pha
  | eorImm (v : Byte)
  | lsrAcc
  | jmpAbs (a : Word)
  | eorAbs (a : Word)
  | lsrAbs (a : Word)
  | bvc (d : Byte)
  | eorIndy (z : Byte)
  | eorZpx (z : Byte)
  | lsrZpx (z : Byte)
  | cli
  | eorAbsy (a : Word)
  | eorAbsx (a : Word)
  | lsrAbsx (a : Word)
  | rts
  | adcIndx (z : Byte)
  | adcZp (z : Byte)
  | rorZp (z : Byte)
  | pla
  | adcImm (v : Byte)
  | rorAcc
  | jmpInd (ptr : Word)
  | adcAbs (a : Word)
  | rorAbs (a : Word)
  | bvs (d : Byte)
  | adcIndy (z : Byte)
  | adcZpx (z : Byte)
  | rorZpx (z : Byte)
  | sei
  | adcAbsy (a : Word)
  | adcAbsx (a : Word)
  | rorAbsx (a : Word)
  | staIndx (z : Byte)
  | styZp (z : Byte)
  | staZp (z : Byte)
  | stxZp (z : Byte)
  | dey
  | txa
  | styAbs (a : Word)
  | staAbs (a : Word)
  | stxAbs (a : Word)
  | bcc (d : Byte)
  | staIndy (z : Byte)
  | styZpx (z : Byte)
  | staZpx (z : Byte)
  | stxZpy (z : Byte)
  | tya
  | staAbsy (a : Word)
  | txs
  | staAbsx (a : Word)
  | ldyImm (v : Byte)
  | ldaIndx (z : Byte)
  | ldxImm (v : Byte)
  | ldyZp (z : Byte)
  | ldaZp (z : Byte)
  | ldxZp (z : Byte)
  | tay
  | ldaImm (v : Byte)
  | tax
  | ldyAbs (a : Word)
  | ldaAbs (a : Word)
  | ldxAbs (a : Word)
  | bcs (d : Byte)
  | ldaIndy (z : Byte)
  | ldyZpx (z : Byte)
  | ldaZpx (z : Byte)
  | ldxZpy (z : Byte)
  | clv
  | ldaAbsy (a : Word)
  | tsx
  | ldyAbsx (a : Word)
  | ldaAbsx (a : Word)
  | ldxAbsy (a : Word)
  | cpyImm (v : Byte)
  | cmpIndx (z : Byte)
  | cpyZp (z : Byte)
  | cmpZp (z : Byte)
  | decZp (z : Byte)
  | iny
  | cmpImm (v : Byte)
  | dex
  | cpyAbs (a : Word)
  | cmpAbs (a : Word)
  | decAbs (a : Word)
  | bne (d : Byte)
  | cmpIndy (z : Byte)
  | cmpZpx (z : Byte)
  | decZpx (z : Byte)
  | cld
  | cmpAbsy (a : Word)
  | cmpAbsx (a : Word)
  | decAbsx (a : Word)
  | cpxImm (v : Byte)
  | sbcIndx (z : Byte)
  | cpxZp (z : Byte)
  | sbcZp (z : Byte)
  | incZp (z : Byte)
  | inx
  | sbcImm (v : Byte)
  | nop
  | cpxAbs (a : Word)
  | sbcAbs (a : Word)
  | incAbs (a : Word)
  | beq (d : Byte)
  | sbcIndy (z : Byte)
  | sbcZpx (z : Byte)
  | incZpx (z : Byte)
  | sed
  | sbcAbsy (a : Word)
  | sbcAbsx (a : Word)
  | incAbsx (a : Word)
  | unassigned02
  | unassigned03
  | unassigned04
  | unassigned07
  | unassigned0B
  | unassigned0C
  | unassigned0F
  | unassigned12
  | unassigned13
  | unassigned14
  | unassigned17
  | unassigned1A
  | unassigned1B
  | unassigned1C
  | unassigned1F
  | unassigned22
  | unassigned23
  | unassigned27
  | unassigned2B
  | unassigned2F
  | unassigned32
  | unassigned33
  | unassigned34
  | unassigned37
  | unassigned3A
  | unassigned3B
  | unassigned3C
  | unassigned3F
  | unassigned42
  | unassigned43
  | unassigned44
  | unassigned47
  | unassigned4B
  | unassigned4F
  | unassigned52
  | unassigned53
  | unassigned54
  | unassigned57
  | unassigned5A
  | unassigned5B
  | unassigned5C
  | unassigned5F
  | unassigned62
  | unassigned63
  | unassigned64
  | unassigned67
  | unassigned6B
  | unassigned6F
  | unassigned72
  | unassigned73
  | unassigned74
  | unassigned77
  | unassigned7A
  | unassigned7B
  | unassigned7C
  | unassigned7F
  | unassigned80
  | unassigned82
  | unassigned83
  | unassigned87
  | unassigned89
  | unassigned8B
  | unassigned8F
  | unassigned92
  | unassigned93
  | unassigned97
  | unassigned9B
  | unassigned9C
  | unassigned9E
  | unassigned9F
  | unassignedA3
  | unassignedA7
  | unassignedAB
  | unassignedAF
  | unassignedB2
  | unassignedB3
  | unassignedB7
  | unassignedBB
  | unassignedBF
  | unassignedC2
  | unassignedC3
  | unassignedC7
  | unassignedCB
  | unassignedCF
  | unassignedD2
  | unassignedD3
  | unassignedD4
  | unassignedD7
  | unassignedDA
  | unassignedDB
  | unassignedDC
  | unassignedDF
  | unassignedE2
  | unassignedE3
  | unassignedE7
  | unassignedEB
  | unassignedEF
  | unassignedF2
  | unassignedF3
  | unassignedF4
  | unassignedF7
  | unassignedFA
  | unassignedFB
  | unassignedFC
  | unassignedFF
  deriving DecidableEq, Repr

end Sys2Proof
end

