-- ==== Sys2Proof/Decode.lean ====
section
/-!
DEFINITION. The instruction encoding (30_encoding.md, sections 1 to 4): the Instruction Set Table
keyed by mnemonic and mode (R76), the opcode decoder as a table of 256 entries indexed by the
opcode byte (R62, the 16 × 16 grid of R76), and the encoder. The decoder is written from the grid
and the encoder from the mnemonic table, so that each checks the other.
-/

namespace Sys2Proof

/-! ## Byte order (20_memory.md R46, R47) -/

/-- `hi:lo`, the 16-bit value of two bytes (R10). -/
def Word.ofBytes (hi lo : Byte) : Word := hi ++ lo

/-- Bits 7..0. -/
def Word.lowByte (w : Word) : Byte := w.extractLsb' 0 8

/-- Bits 15..8. -/
def Word.highByte (w : Word) : Byte := w.extractLsb' 8 8

/-! ## Formats (R60, R61) -/

/-- The length in bytes of each addressing mode's format (R61). -/
def Mode.length : Mode → Nat
  | .imp | .acc => 1
  | .imm | .zp | .zpx | .zpy | .indx | .indy | .rel => 2
  | .abs | .absx | .absy | .ind => 3

/-- The addressing mode of an operand. -/
def Operand.mode : Operand → Mode
  | .imp => .imp
  | .acc => .acc
  | .imm _ => .imm
  | .zp _ => .zp
  | .zpx _ => .zpx
  | .zpy _ => .zpy
  | .abs _ => .abs
  | .absx _ => .absx
  | .absy _ => .absy
  | .ind _ => .ind
  | .indx _ => .indx
  | .indy _ => .indy
  | .rel _ => .rel

/-- The bytes after the opcode: none, one, or a 16-bit field low byte first (R61, R63). -/
def Operand.bytes : Operand → List Byte
  | .imp | .acc => []
  | .imm b | .zp b | .zpx b | .zpy b | .indx b | .indy b | .rel b => [b]
  | .abs w | .absx w | .absy w | .ind w => [w.lowByte, w.highByte]

/-! ## The Instruction Set Table (R76) -/

/-- The encodings of each mnemonic: the modes it has, each with its opcode byte. One line per row
of R76's table. -/
def Mnemonic.forms : Mnemonic → List (Mode × Byte)
  | .adc => [(.imm, 0x69), (.zp, 0x65), (.zpx, 0x75), (.abs, 0x6D), (.absx, 0x7D), (.absy, 0x79), (.indx, 0x61), (.indy, 0x71)]
  | .and => [(.imm, 0x29), (.zp, 0x25), (.zpx, 0x35), (.abs, 0x2D), (.absx, 0x3D), (.absy, 0x39), (.indx, 0x21), (.indy, 0x31)]
  | .asl => [(.acc, 0x0A), (.zp, 0x06), (.zpx, 0x16), (.abs, 0x0E), (.absx, 0x1E)]
  | .bcc => [(.rel, 0x90)]
  | .bcs => [(.rel, 0xB0)]
  | .beq => [(.rel, 0xF0)]
  | .bit => [(.zp, 0x24), (.abs, 0x2C)]
  | .bmi => [(.rel, 0x30)]
  | .bne => [(.rel, 0xD0)]
  | .bpl => [(.rel, 0x10)]
  | .brk => [(.imp, 0x00)]
  | .bvc => [(.rel, 0x50)]
  | .bvs => [(.rel, 0x70)]
  | .clc => [(.imp, 0x18)]
  | .cld => [(.imp, 0xD8)]
  | .cli => [(.imp, 0x58)]
  | .clv => [(.imp, 0xB8)]
  | .cmp => [(.imm, 0xC9), (.zp, 0xC5), (.zpx, 0xD5), (.abs, 0xCD), (.absx, 0xDD), (.absy, 0xD9), (.indx, 0xC1), (.indy, 0xD1)]
  | .cpx => [(.imm, 0xE0), (.zp, 0xE4), (.abs, 0xEC)]
  | .cpy => [(.imm, 0xC0), (.zp, 0xC4), (.abs, 0xCC)]
  | .dec => [(.zp, 0xC6), (.zpx, 0xD6), (.abs, 0xCE), (.absx, 0xDE)]
  | .dex => [(.imp, 0xCA)]
  | .dey => [(.imp, 0x88)]
  | .eor => [(.imm, 0x49), (.zp, 0x45), (.zpx, 0x55), (.abs, 0x4D), (.absx, 0x5D), (.absy, 0x59), (.indx, 0x41), (.indy, 0x51)]
  | .inc => [(.zp, 0xE6), (.zpx, 0xF6), (.abs, 0xEE), (.absx, 0xFE)]
  | .inx => [(.imp, 0xE8)]
  | .iny => [(.imp, 0xC8)]
  | .jmp => [(.abs, 0x4C), (.ind, 0x6C)]
  | .jsr => [(.abs, 0x20)]
  | .lda => [(.imm, 0xA9), (.zp, 0xA5), (.zpx, 0xB5), (.abs, 0xAD), (.absx, 0xBD), (.absy, 0xB9), (.indx, 0xA1), (.indy, 0xB1)]
  | .ldx => [(.imm, 0xA2), (.zp, 0xA6), (.zpy, 0xB6), (.abs, 0xAE), (.absy, 0xBE)]
  | .ldy => [(.imm, 0xA0), (.zp, 0xA4), (.zpx, 0xB4), (.abs, 0xAC), (.absx, 0xBC)]
  | .lsr => [(.acc, 0x4A), (.zp, 0x46), (.zpx, 0x56), (.abs, 0x4E), (.absx, 0x5E)]
  | .nop => [(.imp, 0xEA)]
  | .ora => [(.imm, 0x09), (.zp, 0x05), (.zpx, 0x15), (.abs, 0x0D), (.absx, 0x1D), (.absy, 0x19), (.indx, 0x01), (.indy, 0x11)]
  | .pha => [(.imp, 0x48)]
  | .php => [(.imp, 0x08)]
  | .pla => [(.imp, 0x68)]
  | .plp => [(.imp, 0x28)]
  | .rol => [(.acc, 0x2A), (.zp, 0x26), (.zpx, 0x36), (.abs, 0x2E), (.absx, 0x3E)]
  | .ror => [(.acc, 0x6A), (.zp, 0x66), (.zpx, 0x76), (.abs, 0x6E), (.absx, 0x7E)]
  | .rti => [(.imp, 0x40)]
  | .rts => [(.imp, 0x60)]
  | .sbc => [(.imm, 0xE9), (.zp, 0xE5), (.zpx, 0xF5), (.abs, 0xED), (.absx, 0xFD), (.absy, 0xF9), (.indx, 0xE1), (.indy, 0xF1)]
  | .sec => [(.imp, 0x38)]
  | .sed => [(.imp, 0xF8)]
  | .sei => [(.imp, 0x78)]
  | .sta => [(.zp, 0x85), (.zpx, 0x95), (.abs, 0x8D), (.absx, 0x9D), (.absy, 0x99), (.indx, 0x81), (.indy, 0x91)]
  | .stx => [(.zp, 0x86), (.zpy, 0x96), (.abs, 0x8E)]
  | .sty => [(.zp, 0x84), (.zpx, 0x94), (.abs, 0x8C)]
  | .tax => [(.imp, 0xAA)]
  | .tay => [(.imp, 0xA8)]
  | .tsx => [(.imp, 0xBA)]
  | .txa => [(.imp, 0x8A)]
  | .txs => [(.imp, 0x9A)]
  | .tya => [(.imp, 0x98)]

/-- The opcode byte of a mnemonic in a mode, if the table has that entry. -/
def Mnemonic.opcode (mn : Mnemonic) (md : Mode) : Option Byte :=
  (mn.forms.find? fun f => f.1 == md).map Prod.snd

/-- The 105 unassigned opcode bytes (R77). -/
def unassignedOpcodes : List Byte := [
  0x02, 0x03, 0x04, 0x07, 0x0B, 0x0C, 0x0F, 0x12, 0x13, 0x14, 0x17, 0x1A, 0x1B, 0x1C, 0x1F,
  0x22, 0x23, 0x27, 0x2B, 0x2F, 0x32, 0x33, 0x34, 0x37, 0x3A, 0x3B, 0x3C, 0x3F, 0x42, 0x43,
  0x44, 0x47, 0x4B, 0x4F, 0x52, 0x53, 0x54, 0x57, 0x5A, 0x5B, 0x5C, 0x5F, 0x62, 0x63, 0x64,
  0x67, 0x6B, 0x6F, 0x72, 0x73, 0x74, 0x77, 0x7A, 0x7B, 0x7C, 0x7F, 0x80, 0x82, 0x83, 0x87,
  0x89, 0x8B, 0x8F, 0x92, 0x93, 0x97, 0x9B, 0x9C, 0x9E, 0x9F, 0xA3, 0xA7, 0xAB, 0xAF, 0xB2,
  0xB3, 0xB7, 0xBB, 0xBF, 0xC2, 0xC3, 0xC7, 0xCB, 0xCF, 0xD2, 0xD3, 0xD4, 0xD7, 0xDA, 0xDB,
  0xDC, 0xDF, 0xE2, 0xE3, 0xE7, 0xEB, 0xEF, 0xF2, 0xF3, 0xF4, 0xF7, 0xFA, 0xFB, 0xFC, 0xFF]

/-! ## What each instruction is -/

/-- The operation and operand, or the unassigned byte, that each constructor stands for. -/
def Instr.shape : Instr → Shape
  | .brk => .documented .brk .imp
  | .oraIndx z => .documented .ora (.indx z)
  | .unassigned02 => .unassigned 0x02
  | .unassigned03 => .unassigned 0x03
  | .unassigned04 => .unassigned 0x04
  | .oraZp z => .documented .ora (.zp z)
  | .aslZp z => .documented .asl (.zp z)
  | .unassigned07 => .unassigned 0x07
  | .php => .documented .php .imp
  | .oraImm v => .documented .ora (.imm v)
  | .aslAcc => .documented .asl .acc
  | .unassigned0B => .unassigned 0x0B
  | .unassigned0C => .unassigned 0x0C
  | .oraAbs a => .documented .ora (.abs a)
  | .aslAbs a => .documented .asl (.abs a)
  | .unassigned0F => .unassigned 0x0F
  | .bpl d => .documented .bpl (.rel d)
  | .oraIndy z => .documented .ora (.indy z)
  | .unassigned12 => .unassigned 0x12
  | .unassigned13 => .unassigned 0x13
  | .unassigned14 => .unassigned 0x14
  | .oraZpx z => .documented .ora (.zpx z)
  | .aslZpx z => .documented .asl (.zpx z)
  | .unassigned17 => .unassigned 0x17
  | .clc => .documented .clc .imp
  | .oraAbsy a => .documented .ora (.absy a)
  | .unassigned1A => .unassigned 0x1A
  | .unassigned1B => .unassigned 0x1B
  | .unassigned1C => .unassigned 0x1C
  | .oraAbsx a => .documented .ora (.absx a)
  | .aslAbsx a => .documented .asl (.absx a)
  | .unassigned1F => .unassigned 0x1F
  | .jsr a => .documented .jsr (.abs a)
  | .andIndx z => .documented .and (.indx z)
  | .unassigned22 => .unassigned 0x22
  | .unassigned23 => .unassigned 0x23
  | .bitZp z => .documented .bit (.zp z)
  | .andZp z => .documented .and (.zp z)
  | .rolZp z => .documented .rol (.zp z)
  | .unassigned27 => .unassigned 0x27
  | .plp => .documented .plp .imp
  | .andImm v => .documented .and (.imm v)
  | .rolAcc => .documented .rol .acc
  | .unassigned2B => .unassigned 0x2B
  | .bitAbs a => .documented .bit (.abs a)
  | .andAbs a => .documented .and (.abs a)
  | .rolAbs a => .documented .rol (.abs a)
  | .unassigned2F => .unassigned 0x2F
  | .bmi d => .documented .bmi (.rel d)
  | .andIndy z => .documented .and (.indy z)
  | .unassigned32 => .unassigned 0x32
  | .unassigned33 => .unassigned 0x33
  | .unassigned34 => .unassigned 0x34
  | .andZpx z => .documented .and (.zpx z)
  | .rolZpx z => .documented .rol (.zpx z)
  | .unassigned37 => .unassigned 0x37
  | .sec => .documented .sec .imp
  | .andAbsy a => .documented .and (.absy a)
  | .unassigned3A => .unassigned 0x3A
  | .unassigned3B => .unassigned 0x3B
  | .unassigned3C => .unassigned 0x3C
  | .andAbsx a => .documented .and (.absx a)
  | .rolAbsx a => .documented .rol (.absx a)
  | .unassigned3F => .unassigned 0x3F
  | .rti => .documented .rti .imp
  | .eorIndx z => .documented .eor (.indx z)
  | .unassigned42 => .unassigned 0x42
  | .unassigned43 => .unassigned 0x43
  | .unassigned44 => .unassigned 0x44
  | .eorZp z => .documented .eor (.zp z)
  | .lsrZp z => .documented .lsr (.zp z)
  | .unassigned47 => .unassigned 0x47
  | .pha => .documented .pha .imp
  | .eorImm v => .documented .eor (.imm v)
  | .lsrAcc => .documented .lsr .acc
  | .unassigned4B => .unassigned 0x4B
  | .jmpAbs a => .documented .jmp (.abs a)
  | .eorAbs a => .documented .eor (.abs a)
  | .lsrAbs a => .documented .lsr (.abs a)
  | .unassigned4F => .unassigned 0x4F
  | .bvc d => .documented .bvc (.rel d)
  | .eorIndy z => .documented .eor (.indy z)
  | .unassigned52 => .unassigned 0x52
  | .unassigned53 => .unassigned 0x53
  | .unassigned54 => .unassigned 0x54
  | .eorZpx z => .documented .eor (.zpx z)
  | .lsrZpx z => .documented .lsr (.zpx z)
  | .unassigned57 => .unassigned 0x57
  | .cli => .documented .cli .imp
  | .eorAbsy a => .documented .eor (.absy a)
  | .unassigned5A => .unassigned 0x5A
  | .unassigned5B => .unassigned 0x5B
  | .unassigned5C => .unassigned 0x5C
  | .eorAbsx a => .documented .eor (.absx a)
  | .lsrAbsx a => .documented .lsr (.absx a)
  | .unassigned5F => .unassigned 0x5F
  | .rts => .documented .rts .imp
  | .adcIndx z => .documented .adc (.indx z)
  | .unassigned62 => .unassigned 0x62
  | .unassigned63 => .unassigned 0x63
  | .unassigned64 => .unassigned 0x64
  | .adcZp z => .documented .adc (.zp z)
  | .rorZp z => .documented .ror (.zp z)
  | .unassigned67 => .unassigned 0x67
  | .pla => .documented .pla .imp
  | .adcImm v => .documented .adc (.imm v)
  | .rorAcc => .documented .ror .acc
  | .unassigned6B => .unassigned 0x6B
  | .jmpInd ptr => .documented .jmp (.ind ptr)
  | .adcAbs a => .documented .adc (.abs a)
  | .rorAbs a => .documented .ror (.abs a)
  | .unassigned6F => .unassigned 0x6F
  | .bvs d => .documented .bvs (.rel d)
  | .adcIndy z => .documented .adc (.indy z)
  | .unassigned72 => .unassigned 0x72
  | .unassigned73 => .unassigned 0x73
  | .unassigned74 => .unassigned 0x74
  | .adcZpx z => .documented .adc (.zpx z)
  | .rorZpx z => .documented .ror (.zpx z)
  | .unassigned77 => .unassigned 0x77
  | .sei => .documented .sei .imp
  | .adcAbsy a => .documented .adc (.absy a)
  | .unassigned7A => .unassigned 0x7A
  | .unassigned7B => .unassigned 0x7B
  | .unassigned7C => .unassigned 0x7C
  | .adcAbsx a => .documented .adc (.absx a)
  | .rorAbsx a => .documented .ror (.absx a)
  | .unassigned7F => .unassigned 0x7F
  | .unassigned80 => .unassigned 0x80
  | .staIndx z => .documented .sta (.indx z)
  | .unassigned82 => .unassigned 0x82
  | .unassigned83 => .unassigned 0x83
  | .styZp z => .documented .sty (.zp z)
  | .staZp z => .documented .sta (.zp z)
  | .stxZp z => .documented .stx (.zp z)
  | .unassigned87 => .unassigned 0x87
  | .dey => .documented .dey .imp
  | .unassigned89 => .unassigned 0x89
  | .txa => .documented .txa .imp
  | .unassigned8B => .unassigned 0x8B
  | .styAbs a => .documented .sty (.abs a)
  | .staAbs a => .documented .sta (.abs a)
  | .stxAbs a => .documented .stx (.abs a)
  | .unassigned8F => .unassigned 0x8F
  | .bcc d => .documented .bcc (.rel d)
  | .staIndy z => .documented .sta (.indy z)
  | .unassigned92 => .unassigned 0x92
  | .unassigned93 => .unassigned 0x93
  | .styZpx z => .documented .sty (.zpx z)
  | .staZpx z => .documented .sta (.zpx z)
  | .stxZpy z => .documented .stx (.zpy z)
  | .unassigned97 => .unassigned 0x97
  | .tya => .documented .tya .imp
  | .staAbsy a => .documented .sta (.absy a)
  | .txs => .documented .txs .imp
  | .unassigned9B => .unassigned 0x9B
  | .unassigned9C => .unassigned 0x9C
  | .staAbsx a => .documented .sta (.absx a)
  | .unassigned9E => .unassigned 0x9E
  | .unassigned9F => .unassigned 0x9F
  | .ldyImm v => .documented .ldy (.imm v)
  | .ldaIndx z => .documented .lda (.indx z)
  | .ldxImm v => .documented .ldx (.imm v)
  | .unassignedA3 => .unassigned 0xA3
  | .ldyZp z => .documented .ldy (.zp z)
  | .ldaZp z => .documented .lda (.zp z)
  | .ldxZp z => .documented .ldx (.zp z)
  | .unassignedA7 => .unassigned 0xA7
  | .tay => .documented .tay .imp
  | .ldaImm v => .documented .lda (.imm v)
  | .tax => .documented .tax .imp
  | .unassignedAB => .unassigned 0xAB
  | .ldyAbs a => .documented .ldy (.abs a)
  | .ldaAbs a => .documented .lda (.abs a)
  | .ldxAbs a => .documented .ldx (.abs a)
  | .unassignedAF => .unassigned 0xAF
  | .bcs d => .documented .bcs (.rel d)
  | .ldaIndy z => .documented .lda (.indy z)
  | .unassignedB2 => .unassigned 0xB2
  | .unassignedB3 => .unassigned 0xB3
  | .ldyZpx z => .documented .ldy (.zpx z)
  | .ldaZpx z => .documented .lda (.zpx z)
  | .ldxZpy z => .documented .ldx (.zpy z)
  | .unassignedB7 => .unassigned 0xB7
  | .clv => .documented .clv .imp
  | .ldaAbsy a => .documented .lda (.absy a)
  | .tsx => .documented .tsx .imp
  | .unassignedBB => .unassigned 0xBB
  | .ldyAbsx a => .documented .ldy (.absx a)
  | .ldaAbsx a => .documented .lda (.absx a)
  | .ldxAbsy a => .documented .ldx (.absy a)
  | .unassignedBF => .unassigned 0xBF
  | .cpyImm v => .documented .cpy (.imm v)
  | .cmpIndx z => .documented .cmp (.indx z)
  | .unassignedC2 => .unassigned 0xC2
  | .unassignedC3 => .unassigned 0xC3
  | .cpyZp z => .documented .cpy (.zp z)
  | .cmpZp z => .documented .cmp (.zp z)
  | .decZp z => .documented .dec (.zp z)
  | .unassignedC7 => .unassigned 0xC7
  | .iny => .documented .iny .imp
  | .cmpImm v => .documented .cmp (.imm v)
  | .dex => .documented .dex .imp
  | .unassignedCB => .unassigned 0xCB
  | .cpyAbs a => .documented .cpy (.abs a)
  | .cmpAbs a => .documented .cmp (.abs a)
  | .decAbs a => .documented .dec (.abs a)
  | .unassignedCF => .unassigned 0xCF
  | .bne d => .documented .bne (.rel d)
  | .cmpIndy z => .documented .cmp (.indy z)
  | .unassignedD2 => .unassigned 0xD2
  | .unassignedD3 => .unassigned 0xD3
  | .unassignedD4 => .unassigned 0xD4
  | .cmpZpx z => .documented .cmp (.zpx z)
  | .decZpx z => .documented .dec (.zpx z)
  | .unassignedD7 => .unassigned 0xD7
  | .cld => .documented .cld .imp
  | .cmpAbsy a => .documented .cmp (.absy a)
  | .unassignedDA => .unassigned 0xDA
  | .unassignedDB => .unassigned 0xDB
  | .unassignedDC => .unassigned 0xDC
  | .cmpAbsx a => .documented .cmp (.absx a)
  | .decAbsx a => .documented .dec (.absx a)
  | .unassignedDF => .unassigned 0xDF
  | .cpxImm v => .documented .cpx (.imm v)
  | .sbcIndx z => .documented .sbc (.indx z)
  | .unassignedE2 => .unassigned 0xE2
  | .unassignedE3 => .unassigned 0xE3
  | .cpxZp z => .documented .cpx (.zp z)
  | .sbcZp z => .documented .sbc (.zp z)
  | .incZp z => .documented .inc (.zp z)
  | .unassignedE7 => .unassigned 0xE7
  | .inx => .documented .inx .imp
  | .sbcImm v => .documented .sbc (.imm v)
  | .nop => .documented .nop .imp
  | .unassignedEB => .unassigned 0xEB
  | .cpxAbs a => .documented .cpx (.abs a)
  | .sbcAbs a => .documented .sbc (.abs a)
  | .incAbs a => .documented .inc (.abs a)
  | .unassignedEF => .unassigned 0xEF
  | .beq d => .documented .beq (.rel d)
  | .sbcIndy z => .documented .sbc (.indy z)
  | .unassignedF2 => .unassigned 0xF2
  | .unassignedF3 => .unassigned 0xF3
  | .unassignedF4 => .unassigned 0xF4
  | .sbcZpx z => .documented .sbc (.zpx z)
  | .incZpx z => .documented .inc (.zpx z)
  | .unassignedF7 => .unassigned 0xF7
  | .sed => .documented .sed .imp
  | .sbcAbsy a => .documented .sbc (.absy a)
  | .unassignedFA => .unassigned 0xFA
  | .unassignedFB => .unassigned 0xFB
  | .unassignedFC => .unassigned 0xFC
  | .sbcAbsx a => .documented .sbc (.absx a)
  | .incAbsx a => .documented .inc (.absx a)
  | .unassignedFF => .unassigned 0xFF

/-- The length of an entry: its mode's (R61), and 1 for an unassigned byte (R77). -/
def Shape.length : Shape → Nat
  | .documented _ o => o.mode.length
  | .unassigned _ => 1

/-- The length of an instruction, by which the step advances PC. For BRK it is the table's length 1:
the engine's skip of the padding byte is part of BRK's operation (R79). -/
def Instr.length (i : Instr) : Nat := i.shape.length

/-! ## The decoder (R62) -/

/-- An entry without operand bytes. -/
def oneByte (i : Instr) : Byte → Byte → Instr := fun _ _ => i

/-- An entry with one operand byte, `b1`. -/
def twoBytes (f : Byte → Instr) : Byte → Byte → Instr := fun b1 _ => f b1

/-- An entry with the 16-bit operand `b2:b1` (R61, R63). -/
def threeBytes (f : Word → Instr) : Byte → Byte → Instr := fun b1 b2 => f (Word.ofBytes b2 b1)

/-- Row 0x of the grid: the opcodes 0x00 to 0x0F. -/
def decodeRow0 : Vector (Byte → Byte → Instr) 16 := #v[
  oneByte .brk, twoBytes .oraIndx, oneByte .unassigned02, oneByte .unassigned03,
  oneByte .unassigned04, twoBytes .oraZp, twoBytes .aslZp, oneByte .unassigned07,
  oneByte .php, twoBytes .oraImm, oneByte .aslAcc, oneByte .unassigned0B,
  oneByte .unassigned0C, threeBytes .oraAbs, threeBytes .aslAbs, oneByte .unassigned0F]

/-- Row 1x of the grid: the opcodes 0x10 to 0x1F. -/
def decodeRow1 : Vector (Byte → Byte → Instr) 16 := #v[
  twoBytes .bpl, twoBytes .oraIndy, oneByte .unassigned12, oneByte .unassigned13,
  oneByte .unassigned14, twoBytes .oraZpx, twoBytes .aslZpx, oneByte .unassigned17,
  oneByte .clc, threeBytes .oraAbsy, oneByte .unassigned1A, oneByte .unassigned1B,
  oneByte .unassigned1C, threeBytes .oraAbsx, threeBytes .aslAbsx, oneByte .unassigned1F]

/-- Row 2x of the grid: the opcodes 0x20 to 0x2F. -/
def decodeRow2 : Vector (Byte → Byte → Instr) 16 := #v[
  threeBytes .jsr, twoBytes .andIndx, oneByte .unassigned22, oneByte .unassigned23,
  twoBytes .bitZp, twoBytes .andZp, twoBytes .rolZp, oneByte .unassigned27,
  oneByte .plp, twoBytes .andImm, oneByte .rolAcc, oneByte .unassigned2B,
  threeBytes .bitAbs, threeBytes .andAbs, threeBytes .rolAbs, oneByte .unassigned2F]

/-- Row 3x of the grid: the opcodes 0x30 to 0x3F. -/
def decodeRow3 : Vector (Byte → Byte → Instr) 16 := #v[
  twoBytes .bmi, twoBytes .andIndy, oneByte .unassigned32, oneByte .unassigned33,
  oneByte .unassigned34, twoBytes .andZpx, twoBytes .rolZpx, oneByte .unassigned37,
  oneByte .sec, threeBytes .andAbsy, oneByte .unassigned3A, oneByte .unassigned3B,
  oneByte .unassigned3C, threeBytes .andAbsx, threeBytes .rolAbsx, oneByte .unassigned3F]

/-- Row 4x of the grid: the opcodes 0x40 to 0x4F. -/
def decodeRow4 : Vector (Byte → Byte → Instr) 16 := #v[
  oneByte .rti, twoBytes .eorIndx, oneByte .unassigned42, oneByte .unassigned43,
  oneByte .unassigned44, twoBytes .eorZp, twoBytes .lsrZp, oneByte .unassigned47,
  oneByte .pha, twoBytes .eorImm, oneByte .lsrAcc, oneByte .unassigned4B,
  threeBytes .jmpAbs, threeBytes .eorAbs, threeBytes .lsrAbs, oneByte .unassigned4F]

/-- Row 5x of the grid: the opcodes 0x50 to 0x5F. -/
def decodeRow5 : Vector (Byte → Byte → Instr) 16 := #v[
  twoBytes .bvc, twoBytes .eorIndy, oneByte .unassigned52, oneByte .unassigned53,
  oneByte .unassigned54, twoBytes .eorZpx, twoBytes .lsrZpx, oneByte .unassigned57,
  oneByte .cli, threeBytes .eorAbsy, oneByte .unassigned5A, oneByte .unassigned5B,
  oneByte .unassigned5C, threeBytes .eorAbsx, threeBytes .lsrAbsx, oneByte .unassigned5F]

/-- Row 6x of the grid: the opcodes 0x60 to 0x6F. -/
def decodeRow6 : Vector (Byte → Byte → Instr) 16 := #v[
  oneByte .rts, twoBytes .adcIndx, oneByte .unassigned62, oneByte .unassigned63,
  oneByte .unassigned64, twoBytes .adcZp, twoBytes .rorZp, oneByte .unassigned67,
  oneByte .pla, twoBytes .adcImm, oneByte .rorAcc, oneByte .unassigned6B,
  threeBytes .jmpInd, threeBytes .adcAbs, threeBytes .rorAbs, oneByte .unassigned6F]

/-- Row 7x of the grid: the opcodes 0x70 to 0x7F. -/
def decodeRow7 : Vector (Byte → Byte → Instr) 16 := #v[
  twoBytes .bvs, twoBytes .adcIndy, oneByte .unassigned72, oneByte .unassigned73,
  oneByte .unassigned74, twoBytes .adcZpx, twoBytes .rorZpx, oneByte .unassigned77,
  oneByte .sei, threeBytes .adcAbsy, oneByte .unassigned7A, oneByte .unassigned7B,
  oneByte .unassigned7C, threeBytes .adcAbsx, threeBytes .rorAbsx, oneByte .unassigned7F]

/-- Row 8x of the grid: the opcodes 0x80 to 0x8F. -/
def decodeRow8 : Vector (Byte → Byte → Instr) 16 := #v[
  oneByte .unassigned80, twoBytes .staIndx, oneByte .unassigned82, oneByte .unassigned83,
  twoBytes .styZp, twoBytes .staZp, twoBytes .stxZp, oneByte .unassigned87,
  oneByte .dey, oneByte .unassigned89, oneByte .txa, oneByte .unassigned8B,
  threeBytes .styAbs, threeBytes .staAbs, threeBytes .stxAbs, oneByte .unassigned8F]

/-- Row 9x of the grid: the opcodes 0x90 to 0x9F. -/
def decodeRow9 : Vector (Byte → Byte → Instr) 16 := #v[
  twoBytes .bcc, twoBytes .staIndy, oneByte .unassigned92, oneByte .unassigned93,
  twoBytes .styZpx, twoBytes .staZpx, twoBytes .stxZpy, oneByte .unassigned97,
  oneByte .tya, threeBytes .staAbsy, oneByte .txs, oneByte .unassigned9B,
  oneByte .unassigned9C, threeBytes .staAbsx, oneByte .unassigned9E, oneByte .unassigned9F]

/-- Row Ax of the grid: the opcodes 0xA0 to 0xAF. -/
def decodeRowA : Vector (Byte → Byte → Instr) 16 := #v[
  twoBytes .ldyImm, twoBytes .ldaIndx, twoBytes .ldxImm, oneByte .unassignedA3,
  twoBytes .ldyZp, twoBytes .ldaZp, twoBytes .ldxZp, oneByte .unassignedA7,
  oneByte .tay, twoBytes .ldaImm, oneByte .tax, oneByte .unassignedAB,
  threeBytes .ldyAbs, threeBytes .ldaAbs, threeBytes .ldxAbs, oneByte .unassignedAF]

/-- Row Bx of the grid: the opcodes 0xB0 to 0xBF. -/
def decodeRowB : Vector (Byte → Byte → Instr) 16 := #v[
  twoBytes .bcs, twoBytes .ldaIndy, oneByte .unassignedB2, oneByte .unassignedB3,
  twoBytes .ldyZpx, twoBytes .ldaZpx, twoBytes .ldxZpy, oneByte .unassignedB7,
  oneByte .clv, threeBytes .ldaAbsy, oneByte .tsx, oneByte .unassignedBB,
  threeBytes .ldyAbsx, threeBytes .ldaAbsx, threeBytes .ldxAbsy, oneByte .unassignedBF]

/-- Row Cx of the grid: the opcodes 0xC0 to 0xCF. -/
def decodeRowC : Vector (Byte → Byte → Instr) 16 := #v[
  twoBytes .cpyImm, twoBytes .cmpIndx, oneByte .unassignedC2, oneByte .unassignedC3,
  twoBytes .cpyZp, twoBytes .cmpZp, twoBytes .decZp, oneByte .unassignedC7,
  oneByte .iny, twoBytes .cmpImm, oneByte .dex, oneByte .unassignedCB,
  threeBytes .cpyAbs, threeBytes .cmpAbs, threeBytes .decAbs, oneByte .unassignedCF]

/-- Row Dx of the grid: the opcodes 0xD0 to 0xDF. -/
def decodeRowD : Vector (Byte → Byte → Instr) 16 := #v[
  twoBytes .bne, twoBytes .cmpIndy, oneByte .unassignedD2, oneByte .unassignedD3,
  oneByte .unassignedD4, twoBytes .cmpZpx, twoBytes .decZpx, oneByte .unassignedD7,
  oneByte .cld, threeBytes .cmpAbsy, oneByte .unassignedDA, oneByte .unassignedDB,
  oneByte .unassignedDC, threeBytes .cmpAbsx, threeBytes .decAbsx, oneByte .unassignedDF]

/-- Row Ex of the grid: the opcodes 0xE0 to 0xEF. -/
def decodeRowE : Vector (Byte → Byte → Instr) 16 := #v[
  twoBytes .cpxImm, twoBytes .sbcIndx, oneByte .unassignedE2, oneByte .unassignedE3,
  twoBytes .cpxZp, twoBytes .sbcZp, twoBytes .incZp, oneByte .unassignedE7,
  oneByte .inx, twoBytes .sbcImm, oneByte .nop, oneByte .unassignedEB,
  threeBytes .cpxAbs, threeBytes .sbcAbs, threeBytes .incAbs, oneByte .unassignedEF]

/-- Row Fx of the grid: the opcodes 0xF0 to 0xFF. -/
def decodeRowF : Vector (Byte → Byte → Instr) 16 := #v[
  twoBytes .beq, twoBytes .sbcIndy, oneByte .unassignedF2, oneByte .unassignedF3,
  oneByte .unassignedF4, twoBytes .sbcZpx, twoBytes .incZpx, oneByte .unassignedF7,
  oneByte .sed, threeBytes .sbcAbsy, oneByte .unassignedFA, oneByte .unassignedFB,
  oneByte .unassignedFC, threeBytes .sbcAbsx, threeBytes .incAbsx, oneByte .unassignedFF]

/-- The decoder's grid: row by high nibble, column by low nibble of the opcode (R62, R76). -/
def decodeGrid : Vector (Vector (Byte → Byte → Instr) 16) 16 := #v[
  decodeRow0, decodeRow1, decodeRow2, decodeRow3,
  decodeRow4, decodeRow5, decodeRow6, decodeRow7,
  decodeRow8, decodeRow9, decodeRowA, decodeRowB,
  decodeRowC, decodeRowD, decodeRowE, decodeRowF]

/-- The instruction with opcode `b0`, where `b1` and `b2` are the bytes after it. An entry looks
only at the operand bytes its format has (R61). Every byte value selects exactly one entry. -/
def decodeOp (b0 b1 b2 : Byte) : Instr :=
  let row := decodeGrid[b0.toNat / 16]'(by omega)
  let entry := row[b0.toNat % 16]'(by omega)
  entry b1 b2

/-- Why a list of bytes does not begin with a whole instruction. No byte value is rejected (R62). -/
inductive DecodeError where
  /-- There is no opcode byte. -/
  | noBytes
  /-- The list ends before the operand bytes of the opcode `b0`. -/
  | truncated (b0 : Byte)
  deriving DecidableEq, Repr

/-- Reads one instruction from the front of a list of bytes and gives the bytes after it. -/
def decode : List Byte → Except DecodeError (Instr × List Byte)
  | [] => .error .noBytes
  | b0 :: rest =>
    let i := decodeOp b0 (rest.getD 0 0) (rest.getD 1 0)
    if rest.length + 1 < i.length then .error (.truncated b0)
    else .ok (i, rest.drop (i.length - 1))

/-! ## The encoder (R61, R76, R90) -/

/-- The bytes of an operation with an operand, if the table has its mode (R78). -/
def Shape.encode : Shape → Option (List Byte)
  | .documented mn o => (mn.opcode o.mode).map fun b0 => b0 :: o.bytes
  | .unassigned b0 => if unassignedOpcodes.contains b0 then some [b0] else none

/-- The bytes of an instruction, its opcode at the lowest address. Every instruction is well formed
(WellFormed.lean), so the default is never taken. -/
def encode (i : Instr) : List Byte := i.shape.encode.getD []

/-! ## The opcode table's words -/

/-- The first `n` bytes of a number, byte `k` being its bits `8k+7..8k`. -/
def littleEndianBytes : Nat → Nat → List Byte
  | 0, _ => []
  | n + 1, w => BitVec.ofNat 8 w :: littleEndianBytes n (w / 256)

/-- An instruction of the opcode table as the three bytes the memory holds: the table's `nbits` bits
of `w`, every bit above them 0. -/
def tableWordBytes (nbits w : Nat) : List Byte := littleEndianBytes 3 (w % 2 ^ nbits)

/-- The instruction the decoder reads from an instruction whose bits are `w`, numbered as
spec/opcode_table.json numbers them. -/
def decodeTableWord (nbits w : Nat) : Option Instr :=
  match decode (tableWordBytes nbits w) with
  | .ok (i, _) => some i
  | .error _ => none

end Sys2Proof
end

