-- ==== Sys2Proof/Config.lean ====
section
/-!
DEFINITION. The fixed parameters of the block (00_scope.md R7, 20_memory.md R42, R52, R54). The
spec leaves no result of an instruction open, so there is no free value here. What the spec leaves
to the host (00_scope.md R8: the memory image, the console sink, the schedule of calls) is
ordinary data of the state or an argument of the host's calls, not a constant.
-/

namespace Sys2Proof.Config

/-- The console output port, the one address the address decoder treats specially (R42). -/
def consolePort : Word := 0xF001#16

/-- What a read of the console port answers: the port is write-only (R43). -/
def consoleReadValue : Byte := 0x00#8

/-- The first byte of the stack page 0x0100..0x01FF (R7, R13, R27). -/
def stackBase : Word := 0x0100#16

/-- Where reset takes PC from, low byte first (R54, R220). -/
def resetVector : Word := 0xFFFC#16

/-- Where BRK takes PC from, low byte first (R54, R183). -/
def breakVector : Word := 0xFFFE#16

/-- SP after reset (R39). -/
def resetSp : Byte := 0xFD#8

/-- P after reset: Unused and Interrupt-disable set, every other flag clear (R39). -/
def resetStatus : Byte := 0x24#8

/-- What a byte of memory that nothing has written holds: the loader clears the whole image to
0x00 before it loads (70_reset_and_hazards.md R224, 92_eei_decisions.md D16).
DESIGN CHOICE (assumption 1), unsafe: R8 leaves the image at reset (`MEM0`) to the host. -/
def clearedByte : Byte := 0x00#8

/-- The assembler's cursor before any `.ORG` (30_encoding.md R85). -/
def defaultOrigin : Nat := 0x8000

end Sys2Proof.Config
end

