-- ==== Sys2Proof/Machine/State.lean ====
section
/-!
DEFINITION. The state of the engine: the register file A, X, Y, SP, PC, P (10_state.md R20), the
memory image (20_memory.md R41) and the console bytes emitted so far (00_scope.md R8). The engine
has no other state, no control register, no mode and no hidden state (R37, R38, 60_exceptions.md
R207, R208). The two reasons a step could stop for are declared here too: the engine has neither
(R15, R200, 70_reset_and_hazards.md R222).
-/

namespace Sys2Proof.Machine

/-- The memory image (R41): the bytes of the 65536 addresses, as a list of (address, byte) pairs.
An address that is not listed holds `Config.clearedByte`. The one canonical form is `Memory.wf`
(Machine/Ops.lean): addresses rising, below 65536, and no entry holding `Config.clearedByte`. -/
abbrev Memory := List Host.Cell

/-- The eight one-bit flags that P packs (R28). -/
inductive Flag where
  /-- Carry (R29). -/
  | c
  /-- Zero (R30). -/
  | z
  /-- Interrupt-disable: stored only, it masks nothing (R31). -/
  | i
  /-- Decimal: stored only, arithmetic stays binary (R32). -/
  | d
  /-- Break: 0 in P, 1 in a pushed status byte (R33). -/
  | b
  /-- Unused: always 1 (R34). -/
  | u
  /-- Overflow (R35). -/
  | v
  /-- Negative (R36). -/
  | n
  deriving DecidableEq, Repr

/-- The whole state of the engine. -/
structure State where
  /-- The accumulator (R22). -/
  a : Byte
  /-- The X index register (R23). -/
  x : Byte
  /-- The Y index register (R24). -/
  y : Byte
  /-- The stack pointer: the byte it names is at 0x0100 + SP (R27). -/
  sp : Byte
  /-- The program counter: between steps the address of the next opcode (R25). -/
  pc : Word
  /-- The status register, flags at the bits of R28. -/
  p : Byte
  /-- The memory image (R41), the byte stored at the console port included (R38). -/
  mem : Memory
  /-- The bytes passed to the console callback, oldest first: the engine's observable output
  (R8, R44). Assumption 2. -/
  console : List Byte
  deriving DecidableEq, Repr

/-- The reasons a step could fault for. There are none: "The engine raises no exception: The CPU
Engine has no error channel at all" (R15, R200). The type is empty, so that no meaning can fault;
this is safe only because the spec defines every case (assumption 8). -/
inductive Fault where
  deriving DecidableEq, Repr

/-- The reasons a step could be refused for. No meaning refuses: every opcode byte has exactly one
meaning and the step is total (R222). -/
inductive Refusal where
  /-- Raised only by an arm of `exec` whose instruction has no meaning yet; no arm is left in this
  state. Safe: nothing follows about the instruction. -/
  | notModelled (mnemonic : String)
  deriving DecidableEq, Repr

/-- What a step of an instruction answers. -/
abbrev Result := Host.Outcome State Fault Refusal

/-- The engine right after `reset()` (R39, R220) with the memory image cleared: A, X and Y are 0,
SP is 0xFD, P is 0x24, and PC is the vector at 0xFFFC, which reads 0x0000 in a cleared image
(assumption 1). `State.resetEngine` (Machine/Ops.lean) is `reset()` on any state. -/
def State.reset : State where
  a := 0x00#8
  x := 0x00#8
  y := 0x00#8
  sp := Config.resetSp
  pc := 0x0000#16
  p := Config.resetStatus
  mem := []
  console := []

end Sys2Proof.Machine
end

