-- ==== Sys2Proof/Machine/Flags.lean ====
section
/-!
DEFINITION. The status register's bits and every flag computation of the spec: SetZN (00_scope.md
R14), the adder and the comparator (41_arithmetic_logic.md R120, R123), BIT (R130), the shift unit
(42_shift_rotate.md R140 to R144), and the status byte as it is pushed and as it is restored
(10_state.md R33, R34). These are functions of bytes; the operations that apply them to the
registers stand in Machine/Ops.lean and the family files.
-/

namespace Sys2Proof.Machine

/-- The bit of P that holds each flag (R28). -/
def Flag.bit : Flag → Nat
  | .c => 0
  | .z => 1
  | .i => 2
  | .d => 3
  | .b => 4
  | .u => 5
  | .v => 6
  | .n => 7

/-- The byte with only the flag's bit set. -/
def Flag.mask (f : Flag) : Byte := 1#8 <<< f.bit

/-- A flag of a status byte. -/
def getFlag (p : Byte) (f : Flag) : Bool := p.getLsbD f.bit

/-- A status byte with one flag written and every other bit kept (R14). -/
def setFlag (p : Byte) (f : Flag) (on : Bool) : Byte :=
  if on then p ||| f.mask else p &&& ~~~f.mask

/-- `SetZN(r)`: Zero is "r = 0", Negative is bit 7 of r (R14). -/
def setZN (r p : Byte) : Byte := setFlag (setFlag p .z (r == 0)) .n r.msb

/-- The status byte that PHP and BRK push: `P | 0x30`, Break and Unused forced to 1 (R33, R171). -/
def pushedStatus (p : Byte) : Byte := p ||| 0x30#8

/-- The status that PLP and RTI restore from a pulled byte: `(v & 0xEF) | 0x20`, Break cleared and
Unused set (R33, R34, R173). -/
def restoredStatus (v : Byte) : Byte := (v &&& 0xEF#8) ||| 0x20#8

/-- `AddWithCarry(a, m, C)`: the result byte and the status with C, V, Z and N written (R120). The
carry-in is the C of `p`; D plays no part. -/
def addWithCarry (a m p : Byte) : Byte × Byte :=
  let sum := a.toNat + m.toNat + (getFlag p .c).toNat
  let r := BitVec.ofNat 8 sum
  let overflow := (~~~(a ^^^ m) &&& (a ^^^ r) &&& 0x80#8) != 0
  (r, setZN r (setFlag (setFlag p .c (sum > 0xFF)) .v overflow))

/-- `Compare(r, M)`: C is "r ≥ M" unsigned, Z and N come from r − M (R123). V is kept. -/
def compareStatus (r m p : Byte) : Byte := setZN (r - m) (setFlag p .c (r.toNat ≥ m.toNat))

/-- BIT's flags: Z from A & M, N and V copied from bits 7 and 6 of M (R130). -/
def bitStatus (a m p : Byte) : Byte :=
  setFlag (setFlag (setFlag p .z (a &&& m == 0)) .n (m.getLsbD 7)) .v (m.getLsbD 6)

/-- ASL's function: the operand shifted left, and its old bit 7 (R141). -/
def aslByte (v : Byte) (_c : Bool) : Byte × Bool := (v <<< 1, v.getLsbD 7)

/-- LSR's function: the operand shifted right, and its old bit 0 (R142). -/
def lsrByte (v : Byte) (_c : Bool) : Byte × Bool := (v >>> 1, v.getLsbD 0)

/-- ROL's function: the operand shifted left with the old carry in bit 0, and its old bit 7
(R143). -/
def rolByte (v : Byte) (c : Bool) : Byte × Bool :=
  ((v <<< 1) ||| BitVec.ofNat 8 c.toNat, v.getLsbD 7)

/-- ROR's function: the operand shifted right with the old carry in bit 7, and its old bit 0
(R144). -/
def rorByte (v : Byte) (c : Bool) : Byte × Bool :=
  ((v >>> 1) ||| (BitVec.ofNat 8 c.toNat <<< 7), v.getLsbD 0)

/-- The status after a shift or rotate: C is the bit shifted out, Z and N come from the result
(R140). -/
def shiftStatus (out : Byte × Bool) (p : Byte) : Byte := setZN out.1 (setFlag p .c out.2)

end Sys2Proof.Machine
end

