-- ==== Sys2Proof/Machine/Ops.lean ====
section
/-!
DEFINITION. The named operations every meaning is built from: the register writes, the memory
image, the read gate and the write gate with the address decoder (20_memory.md R42 to R44), 16-bit
reads (R46), the stack (00_scope.md R13), taking the one trap and returning from it
(60_exceptions.md R204, R205), reset (70_reset_and_hazards.md R220), and fetching an instruction
(R221).
-/

namespace Sys2Proof.Machine

/-! ## Register writes -/

def State.setA (s : State) (v : Byte) : State := { s with a := v }
def State.setX (s : State) (v : Byte) : State := { s with x := v }
def State.setY (s : State) (v : Byte) : State := { s with y := v }
def State.setSp (s : State) (v : Byte) : State := { s with sp := v }
def State.setPc (s : State) (v : Word) : State := { s with pc := v }
def State.setP (s : State) (v : Byte) : State := { s with p := v }
def State.setMem (s : State) (m : Memory) : State := { s with mem := m }

/-- One console event: the byte is passed to the console callback (R44). -/
def State.emit (s : State) (v : Byte) : State := { s with console := s.console ++ [v] }

/-- Writes one flag of P and keeps the others (R14). -/
def State.setFlag (s : State) (f : Flag) (on : Bool) : State := s.setP (Machine.setFlag s.p f on)

/-- `SetZN(r)` applied to P (R14). -/
def State.setZN (s : State) (r : Byte) : State := s.setP (Machine.setZN r s.p)

/-! ## The memory image (R41) -/

/-- The byte a list of cells holds at an address: the first entry for it, else the cleared byte. -/
def Memory.lookup : Memory → Nat → Byte
  | [], _ => Config.clearedByte
  | (k, v) :: rest, a => if k = a then v else Memory.lookup rest a

/-- Puts an entry at its place in the rising order. -/
def Memory.insert : Memory → Nat → Byte → Memory
  | [], a, v => [(a, v)]
  | (k, w) :: rest, a, v =>
    if a < k then (a, v) :: (k, w) :: rest else (k, w) :: Memory.insert rest a v

/-- The byte stored at an address, as the host sees it in the buffer (R38). -/
def Memory.read (m : Memory) (a : Word) : Byte := Memory.lookup m a.toNat

/-- The image with one byte stored. Storing the cleared byte leaves no entry. -/
def Memory.write (m : Memory) (a : Word) (v : Byte) : Memory :=
  let rest := m.filter fun cell => cell.1 != a.toNat
  if v = Config.clearedByte then rest else Memory.insert rest a.toNat v

/-- The canonical form: addresses strictly rising and in 0x0000..0xFFFF (R40), no entry equal to
what an unlisted address reads as. -/
def Memory.wf : Memory → Bool
  | [] => true
  | (a, v) :: rest =>
    decide (a < 65536) && v != Config.clearedByte && rest.all (fun cell => decide (a < cell.1)) &&
      Memory.wf rest

/-- The bytes stored from an address on, in order, wrapping modulo 65536 (R224). -/
def Memory.writeBytes : Memory → Word → List Byte → Memory
  | m, _, [] => m
  | m, a, v :: vs => Memory.writeBytes (m.write a v) (a + 1) vs

/-! ## The read gate and the write gate (R42 to R45) -/

/-- `MemRead(a, 1)`: the console port reads 0x00, every other address its stored byte. A read has
no side effect (R43). -/
def State.readByte (s : State) (a : Word) : Byte :=
  if a = Config.consolePort then Config.consoleReadValue else s.mem.read a

/-- `MemWrite(a, 1, v)`: the byte is stored, and a write to the console port then emits one console
event (R44). -/
def State.writeByte (s : State) (a : Word) (v : Byte) : State :=
  let stored := s.setMem (s.mem.write a v)
  if a = Config.consolePort then stored.emit v else stored

/-- `Read16(a)`: low byte at `a`, high byte at `a + 1` modulo 65536 (R12, R46). -/
def State.read16 (s : State) (a : Word) : Word := Word.ofBytes (s.readByte (a + 1)) (s.readByte a)

/-- A zero-page pointer: low byte at `z`, high byte at `(z + 1) & 0xFF` (R46, R71, R72). -/
def State.readZeroPage16 (s : State) (z : Byte) : Word :=
  Word.ofBytes (s.readByte ((z + 1).setWidth 16)) (s.readByte (z.setWidth 16))

/-! ## The stack (R13, R27) -/

/-- The address of the stack byte that a stack pointer names: 0x0100 + SP. -/
def stackAddress (sp : Byte) : Word := Config.stackBase + sp.setWidth 16

/-- `Push8(v)`: writes at 0x0100 + SP, then decrements SP, which wraps silently. -/
def State.push8 (s : State) (v : Byte) : State :=
  (s.writeByte (stackAddress s.sp) v).setSp (s.sp - 1)

/-- `Pull8()`: increments SP, which wraps silently, then reads at 0x0100 + SP. -/
def State.pull8 (s : State) : Byte × State :=
  (s.readByte (stackAddress (s.sp + 1)), s.setSp (s.sp + 1))

/-- `Push16(w)`: the high byte first, then the low byte. -/
def State.push16 (s : State) (w : Word) : State := (s.push8 w.highByte).push8 w.lowByte

/-- `Pull16()`: the low byte first, then the high byte. -/
def State.pull16 (s : State) : Word × State :=
  let lo := s.pull8
  let hi := lo.2.pull8
  (Word.ofBytes hi.1 lo.1, hi.2)

/-! ## The trap and its return -/

/-- Trap entry (R183, R204): pushes the return address, high byte then low byte, and the status
with Break and Unused 1; then sets Interrupt-disable and takes PC from the vector, which is read
after the pushes (R227). -/
def State.enterTrap (s : State) (returnAddress vector : Word) : State :=
  let saved := (s.push16 returnAddress).push8 (pushedStatus s.p)
  let masked := saved.setFlag .i true
  masked.setPc (masked.read16 vector)

/-- Trap return (R184, R205): pulls the status (Break cleared, Unused set), then the return address,
low byte first, and continues there without adding 1. -/
def State.returnFromTrap (s : State) : State :=
  let v := s.pull8
  let w := (v.2.setP (restoredStatus v.1)).pull16
  w.2.setPc w.1

/-! ## Reset (R220) -/

/-- `reset()`: the register file is initialised and PC comes from the vector at 0xFFFC, read
through the read gate. It writes no memory and emits no console event. -/
def State.resetEngine (s : State) : State where
  a := 0x00#8
  x := 0x00#8
  y := 0x00#8
  sp := Config.resetSp
  pc := s.read16 Config.resetVector
  p := Config.resetStatus
  mem := s.mem
  console := s.console

/-! ## Fetching an instruction (R25, R63, R221) -/

/-- The byte at PC + k modulo 65536, read through the read gate (R26). -/
def State.codeByte (s : State) (k : Nat) : Byte := s.readByte (s.pc + BitVec.ofNat 16 k)

/-- The instruction at PC. The decoder's entry looks only at the operand bytes its format has; a
read has no side effect, so the bytes after them play no part (R43, R227). -/
def State.fetch (s : State) : Instr := decodeOp (s.codeByte 0) (s.codeByte 1) (s.codeByte 2)

/-- The state in which the operation of an instruction runs: PC is the address of the byte after
the instruction (R25). -/
def State.passInstr (s : State) (i : Instr) : State := s.setPc (s.pc + BitVec.ofNat 16 i.length)

/-! ## Placing code (R224) -/

/-- The three addresses from `a` on leave out the console port, which never fetches what is stored
at it (R43). -/
def fetchWindowFree (a : Word) : Bool :=
  a != Config.consolePort && a + 1 != Config.consolePort && a + 2 != Config.consolePort

/-- Up to three bytes stored where the next step fetches them, as the host stores them, without a
console event (R56, R224). Where the bytes at PC would take in the console port, whose reads answer
0x00 whatever is stored, PC moves to 0x0000 first (assumption 5). -/
def State.placeCode (s : State) (code : List Byte) : State :=
  let t := if fetchWindowFree s.pc then s else s.setPc 0x0000#16
  t.setMem (t.mem.writeBytes t.pc code)

end Sys2Proof.Machine
end

