-- ==== Sys2Proof/Machine/Operands.lean ====
section
/-!
DEFINITION. The addressing-mode routines (30_encoding.md R64 to R74): the effective address of each
mode, and the operand byte of the read class (R75). The operand bytes are already fetched, as the
fields of the instruction; PC has passed them (R221).
-/

namespace Sys2Proof.Machine

/-- Zero-page: 0x0000..0x00FF (R66). -/
def eaZp (z : Byte) : Word := z.setWidth 16

/-- Zero-page-X: the sum wraps within page 0 (R67). -/
def eaZpx (z : Byte) (s : State) : Word := (z + s.x).setWidth 16

/-- Zero-page-Y: the sum wraps within page 0 (R67). -/
def eaZpy (z : Byte) (s : State) : Word := (z + s.y).setWidth 16

/-- Absolute-X: the sum is taken modulo 65536 (R69). -/
def eaAbsx (a : Word) (s : State) : Word := a + s.x.setWidth 16

/-- Absolute-Y: the sum is taken modulo 65536 (R69). -/
def eaAbsy (a : Word) (s : State) : Word := a + s.y.setWidth 16

/-- Indirect, JMP only: the 16-bit value at `ptr`, its high byte from `ptr + 1` modulo 65536,
without the page-wrap quirk (R70). -/
def eaInd (ptr : Word) (s : State) : Word := s.read16 ptr

/-- Indexed-indirect `(zp,X)`: the pointer at `(z + X) & 0xFF` in page 0 (R71). -/
def eaIndx (z : Byte) (s : State) : Word := s.readZeroPage16 (z + s.x)

/-- Indirect-indexed `(zp),Y`: the pointer at `z` in page 0, then plus Y modulo 65536 (R72). -/
def eaIndy (z : Byte) (s : State) : Word := s.readZeroPage16 z + s.y.setWidth 16

/-- `sext_16(d)`, the signed displacement of a branch (R10, R74). -/
def signExtend (d : Byte) : Word := d.signExtend 16

/-- The address of the data byte an operand names in memory, for the modes that name one. -/
def operandAddress : Operand → State → Option Word
  | .zp z, _ => some (eaZp z)
  | .zpx z, s => some (eaZpx z s)
  | .zpy z, s => some (eaZpy z s)
  | .abs a, _ => some a
  | .absx a, s => some (eaAbsx a s)
  | .absy a, s => some (eaAbsy a s)
  | .indx z, s => some (eaIndx z s)
  | .indy z, s => some (eaIndy z s)
  | .imp, _ | .acc, _ | .imm _, _ | .ind _, _ | .rel _, _ => none

/-- The operand byte `M` of the read class (R75): the immediate byte, A in accumulator mode (R73),
or the byte read at the effective address. -/
def operandByte (o : Operand) (s : State) : Option Byte :=
  match o with
  | .imm v => some v
  | .acc => some s.a
  | o => (operandAddress o s).map s.readByte

end Sys2Proof.Machine
end

