-- ==== Sys2Proof/Machine/Arithmetic.lean ====
section
/-!
DEFINITION. Arithmetic, compares, logic, increment and decrement (41_arithmetic_logic.md R120 to
R137). Arithmetic is binary whatever the Decimal flag holds (R137).
-/

namespace Sys2Proof.Machine

/-! ## ADC and SBC -/

/-- A takes the sum of A, a byte and the carry, and P its flags (R120). -/
def addToA (m : Byte) (s : State) : State :=
  let out := addWithCarry s.a m s.p
  (s.setA out.1).setP out.2

/-- ADC (R121). -/
def adc (m : Byte) (s : State) : State := addToA m s

/-- SBC: the adder with the operand complemented, 8 bits wide (R122). -/
def sbc (m : Byte) (s : State) : State := addToA (m ^^^ 0xFF#8) s

/-- `ADC (z,X)` (R121, R71). -/
def execAdcIndx (z : Byte) (s : State) : Result := .next (adc (s.readByte (eaIndx z s)) s)

/-- `ADC z` (R121, R66). -/
def execAdcZp (z : Byte) (s : State) : Result := .next (adc (s.readByte (eaZp z)) s)

/-- `ADC #v` (R121, R65). -/
def execAdcImm (v : Byte) (s : State) : Result := .next (adc v s)

/-- `ADC a` (R121, R68). -/
def execAdcAbs (a : Word) (s : State) : Result := .next (adc (s.readByte a) s)

/-- `ADC (z),Y` (R121, R72). -/
def execAdcIndy (z : Byte) (s : State) : Result := .next (adc (s.readByte (eaIndy z s)) s)

/-- `ADC z,X` (R121, R67). -/
def execAdcZpx (z : Byte) (s : State) : Result := .next (adc (s.readByte (eaZpx z s)) s)

/-- `ADC a,Y` (R121, R69). -/
def execAdcAbsy (a : Word) (s : State) : Result := .next (adc (s.readByte (eaAbsy a s)) s)

/-- `ADC a,X` (R121, R69). -/
def execAdcAbsx (a : Word) (s : State) : Result := .next (adc (s.readByte (eaAbsx a s)) s)

/-- `SBC (z,X)` (R122, R71). -/
def execSbcIndx (z : Byte) (s : State) : Result := .next (sbc (s.readByte (eaIndx z s)) s)

/-- `SBC z` (R122, R66). -/
def execSbcZp (z : Byte) (s : State) : Result := .next (sbc (s.readByte (eaZp z)) s)

/-- `SBC #v` (R122, R65). -/
def execSbcImm (v : Byte) (s : State) : Result := .next (sbc v s)

/-- `SBC a` (R122, R68). -/
def execSbcAbs (a : Word) (s : State) : Result := .next (sbc (s.readByte a) s)

/-- `SBC (z),Y` (R122, R72). -/
def execSbcIndy (z : Byte) (s : State) : Result := .next (sbc (s.readByte (eaIndy z s)) s)

/-- `SBC z,X` (R122, R67). -/
def execSbcZpx (z : Byte) (s : State) : Result := .next (sbc (s.readByte (eaZpx z s)) s)

/-- `SBC a,Y` (R122, R69). -/
def execSbcAbsy (a : Word) (s : State) : Result := .next (sbc (s.readByte (eaAbsy a s)) s)

/-- `SBC a,X` (R122, R69). -/
def execSbcAbsx (a : Word) (s : State) : Result := .next (sbc (s.readByte (eaAbsx a s)) s)

/-! ## Compares -/

/-- Compare(r, M): only C, Z and N are written (R123). -/
def compareReg (r m : Byte) (s : State) : State := s.setP (compareStatus r m s.p)

/-- `CMP (z,X)` (R124, R71). -/
def execCmpIndx (z : Byte) (s : State) : Result := .next (compareReg s.a (s.readByte (eaIndx z s)) s)

/-- `CMP z` (R124, R66). -/
def execCmpZp (z : Byte) (s : State) : Result := .next (compareReg s.a (s.readByte (eaZp z)) s)

/-- `CMP #v` (R124, R65). -/
def execCmpImm (v : Byte) (s : State) : Result := .next (compareReg s.a v s)

/-- `CMP a` (R124, R68). -/
def execCmpAbs (a : Word) (s : State) : Result := .next (compareReg s.a (s.readByte a) s)

/-- `CMP (z),Y` (R124, R72). -/
def execCmpIndy (z : Byte) (s : State) : Result := .next (compareReg s.a (s.readByte (eaIndy z s)) s)

/-- `CMP z,X` (R124, R67). -/
def execCmpZpx (z : Byte) (s : State) : Result := .next (compareReg s.a (s.readByte (eaZpx z s)) s)

/-- `CMP a,Y` (R124, R69). -/
def execCmpAbsy (a : Word) (s : State) : Result := .next (compareReg s.a (s.readByte (eaAbsy a s)) s)

/-- `CMP a,X` (R124, R69). -/
def execCmpAbsx (a : Word) (s : State) : Result := .next (compareReg s.a (s.readByte (eaAbsx a s)) s)

/-- `CPX #v` (R125, R65). -/
def execCpxImm (v : Byte) (s : State) : Result := .next (compareReg s.x v s)

/-- `CPX z` (R125, R66). -/
def execCpxZp (z : Byte) (s : State) : Result := .next (compareReg s.x (s.readByte (eaZp z)) s)

/-- `CPX a` (R125, R68). -/
def execCpxAbs (a : Word) (s : State) : Result := .next (compareReg s.x (s.readByte a) s)

/-- `CPY #v` (R126, R65). -/
def execCpyImm (v : Byte) (s : State) : Result := .next (compareReg s.y v s)

/-- `CPY z` (R126, R66). -/
def execCpyZp (z : Byte) (s : State) : Result := .next (compareReg s.y (s.readByte (eaZp z)) s)

/-- `CPY a` (R126, R68). -/
def execCpyAbs (a : Word) (s : State) : Result := .next (compareReg s.y (s.readByte a) s)

/-! ## Logic -/

/-- A takes a result, and Z and N come from it (R127 to R129). -/
def logicToA (r : Byte) (s : State) : State := (s.setA r).setZN r

/-- BIT: only Z, N and V are written (R130). -/
def bitTest (m : Byte) (s : State) : State := s.setP (bitStatus s.a m s.p)

/-- `AND (z,X)` (R127, R71). -/
def execAndIndx (z : Byte) (s : State) : Result := .next (logicToA (s.a &&& s.readByte (eaIndx z s)) s)

/-- `AND z` (R127, R66). -/
def execAndZp (z : Byte) (s : State) : Result := .next (logicToA (s.a &&& s.readByte (eaZp z)) s)

/-- `AND #v` (R127, R65). -/
def execAndImm (v : Byte) (s : State) : Result := .next (logicToA (s.a &&& v) s)

/-- `AND a` (R127, R68). -/
def execAndAbs (a : Word) (s : State) : Result := .next (logicToA (s.a &&& s.readByte a) s)

/-- `AND (z),Y` (R127, R72). -/
def execAndIndy (z : Byte) (s : State) : Result := .next (logicToA (s.a &&& s.readByte (eaIndy z s)) s)

/-- `AND z,X` (R127, R67). -/
def execAndZpx (z : Byte) (s : State) : Result := .next (logicToA (s.a &&& s.readByte (eaZpx z s)) s)

/-- `AND a,Y` (R127, R69). -/
def execAndAbsy (a : Word) (s : State) : Result := .next (logicToA (s.a &&& s.readByte (eaAbsy a s)) s)

/-- `AND a,X` (R127, R69). -/
def execAndAbsx (a : Word) (s : State) : Result := .next (logicToA (s.a &&& s.readByte (eaAbsx a s)) s)

/-- `ORA (z,X)` (R128, R71). -/
def execOraIndx (z : Byte) (s : State) : Result := .next (logicToA (s.a ||| s.readByte (eaIndx z s)) s)

/-- `ORA z` (R128, R66). -/
def execOraZp (z : Byte) (s : State) : Result := .next (logicToA (s.a ||| s.readByte (eaZp z)) s)

/-- `ORA #v` (R128, R65). -/
def execOraImm (v : Byte) (s : State) : Result := .next (logicToA (s.a ||| v) s)

/-- `ORA a` (R128, R68). -/
def execOraAbs (a : Word) (s : State) : Result := .next (logicToA (s.a ||| s.readByte a) s)

/-- `ORA (z),Y` (R128, R72). -/
def execOraIndy (z : Byte) (s : State) : Result := .next (logicToA (s.a ||| s.readByte (eaIndy z s)) s)

/-- `ORA z,X` (R128, R67). -/
def execOraZpx (z : Byte) (s : State) : Result := .next (logicToA (s.a ||| s.readByte (eaZpx z s)) s)

/-- `ORA a,Y` (R128, R69). -/
def execOraAbsy (a : Word) (s : State) : Result := .next (logicToA (s.a ||| s.readByte (eaAbsy a s)) s)

/-- `ORA a,X` (R128, R69). -/
def execOraAbsx (a : Word) (s : State) : Result := .next (logicToA (s.a ||| s.readByte (eaAbsx a s)) s)

/-- `EOR (z,X)` (R129, R71). -/
def execEorIndx (z : Byte) (s : State) : Result := .next (logicToA (s.a ^^^ s.readByte (eaIndx z s)) s)

/-- `EOR z` (R129, R66). -/
def execEorZp (z : Byte) (s : State) : Result := .next (logicToA (s.a ^^^ s.readByte (eaZp z)) s)

/-- `EOR #v` (R129, R65). -/
def execEorImm (v : Byte) (s : State) : Result := .next (logicToA (s.a ^^^ v) s)

/-- `EOR a` (R129, R68). -/
def execEorAbs (a : Word) (s : State) : Result := .next (logicToA (s.a ^^^ s.readByte a) s)

/-- `EOR (z),Y` (R129, R72). -/
def execEorIndy (z : Byte) (s : State) : Result := .next (logicToA (s.a ^^^ s.readByte (eaIndy z s)) s)

/-- `EOR z,X` (R129, R67). -/
def execEorZpx (z : Byte) (s : State) : Result := .next (logicToA (s.a ^^^ s.readByte (eaZpx z s)) s)

/-- `EOR a,Y` (R129, R69). -/
def execEorAbsy (a : Word) (s : State) : Result := .next (logicToA (s.a ^^^ s.readByte (eaAbsy a s)) s)

/-- `EOR a,X` (R129, R69). -/
def execEorAbsx (a : Word) (s : State) : Result := .next (logicToA (s.a ^^^ s.readByte (eaAbsx a s)) s)

/-- `BIT z` (R130, R66). -/
def execBitZp (z : Byte) (s : State) : Result := .next (bitTest (s.readByte (eaZp z)) s)

/-- `BIT a` (R130, R68). -/
def execBitAbs (a : Word) (s : State) : Result := .next (bitTest (s.readByte a) s)

/-! ## Increment and decrement -/

/-- INC: one read, then one write of the byte plus 1; Z and N come from the result (R131). -/
def inc (ea : Word) (s : State) : State :=
  let r := s.readByte ea + 1
  (s.writeByte ea r).setZN r

/-- DEC: one read, then one write of the byte minus 1; Z and N come from the result (R132). -/
def dec (ea : Word) (s : State) : State :=
  let r := s.readByte ea - 1
  (s.writeByte ea r).setZN r

/-- `INC z` (R131, R66). -/
def execIncZp (z : Byte) (s : State) : Result := .next (inc (eaZp z) s)

/-- `INC a` (R131, R68). -/
def execIncAbs (a : Word) (s : State) : Result := .next (inc a s)

/-- `INC z,X` (R131, R67). -/
def execIncZpx (z : Byte) (s : State) : Result := .next (inc (eaZpx z s) s)

/-- `INC a,X` (R131, R69). -/
def execIncAbsx (a : Word) (s : State) : Result := .next (inc (eaAbsx a s) s)

/-- `DEC z` (R132, R66). -/
def execDecZp (z : Byte) (s : State) : Result := .next (dec (eaZp z) s)

/-- `DEC a` (R132, R68). -/
def execDecAbs (a : Word) (s : State) : Result := .next (dec a s)

/-- `DEC z,X` (R132, R67). -/
def execDecZpx (z : Byte) (s : State) : Result := .next (dec (eaZpx z s) s)

/-- `DEC a,X` (R132, R69). -/
def execDecAbsx (a : Word) (s : State) : Result := .next (dec (eaAbsx a s) s)

/-- `INX` (R133). -/
def execInx (s : State) : Result := .next ((s.setX (s.x + 1)).setZN (s.x + 1))

/-- `INY` (R134). -/
def execIny (s : State) : Result := .next ((s.setY (s.y + 1)).setZN (s.y + 1))

/-- `DEX` (R135). -/
def execDex (s : State) : Result := .next ((s.setX (s.x - 1)).setZN (s.x - 1))

/-- `DEY` (R136). -/
def execDey (s : State) : Result := .next ((s.setY (s.y - 1)).setZN (s.y - 1))

end Sys2Proof.Machine
end

