-- ==== Sys2Proof/Machine/Control.lean ====
section
/-!
DEFINITION. Branches, jumps, calls and returns (43_control_transfer.md R150 to R163). When an
operation runs, PC is the address of the byte after the instruction (10_state.md R25).
-/

namespace Sys2Proof.Machine

/-! ## Conditional branches -/

/-- The branch operation: PC, which has passed the displacement byte, takes the signed displacement
only if the condition holds (R150). No flag is written. -/
def branch (taken : Bool) (d : Byte) (s : State) : State :=
  if taken then s.setPc (s.pc + signExtend d) else s

/-- `BCC d` (R151, R74). -/
def execBcc (d : Byte) (s : State) : Result := .next (branch (getFlag s.p .c == false) d s)

/-- `BCS d` (R152, R74). -/
def execBcs (d : Byte) (s : State) : Result := .next (branch (getFlag s.p .c == true) d s)

/-- `BEQ d` (R153, R74). -/
def execBeq (d : Byte) (s : State) : Result := .next (branch (getFlag s.p .z == true) d s)

/-- `BNE d` (R154, R74). -/
def execBne (d : Byte) (s : State) : Result := .next (branch (getFlag s.p .z == false) d s)

/-- `BMI d` (R155, R74). -/
def execBmi (d : Byte) (s : State) : Result := .next (branch (getFlag s.p .n == true) d s)

/-- `BPL d` (R156, R74). -/
def execBpl (d : Byte) (s : State) : Result := .next (branch (getFlag s.p .n == false) d s)

/-- `BVC d` (R157, R74). -/
def execBvc (d : Byte) (s : State) : Result := .next (branch (getFlag s.p .v == false) d s)

/-- `BVS d` (R158, R74). -/
def execBvs (d : Byte) (s : State) : Result := .next (branch (getFlag s.p .v == true) d s)

/-! ## Jumps, calls and returns -/

/-- `JMP a` (R159, R68). -/
def execJmpAbs (a : Word) (s : State) : Result := .next (s.setPc a)

/-- `JMP (ptr)` (R159, R70). -/
def execJmpInd (ptr : Word) (s : State) : Result := .next (s.setPc (eaInd ptr s))

/-- JSR: pushes PC − 1, the address of its own last byte, and jumps (R160). -/
def callSubroutine (target : Word) (s : State) : State := (s.push16 (s.pc - 1)).setPc target

/-- RTS: pulls a 16-bit address and continues at the one after it (R161). -/
def returnFromSubroutine (s : State) : State :=
  let w := s.pull16
  w.2.setPc (w.1 + 1)

/-- `JSR a` (R160, R68). -/
def execJsr (a : Word) (s : State) : Result := .next (callSubroutine a s)

/-- `RTS` (R161). -/
def execRts (s : State) : Result := .next (returnFromSubroutine s)

end Sys2Proof.Machine
end

