-- ==== Sys2Proof/Machine/LoadStore.lean ====
section
/-!
DEFINITION. Loads, stores and register transfers (40_load_store_transfer.md R100 to R111). Each
mnemonic's operation is one shared definition; each encoding's meaning applies it to the operand
of its addressing mode.
-/

namespace Sys2Proof.Machine

/-! ## Loads -/

/-- LDA: A takes the byte, and Z and N come from it (R100). -/
def lda (m : Byte) (s : State) : State := (s.setA m).setZN m

/-- `LDA (z,X)` (R100, R71). -/
def execLdaIndx (z : Byte) (s : State) : Result := .next (lda (s.readByte (eaIndx z s)) s)

/-- `LDA z` (R100, R66). -/
def execLdaZp (z : Byte) (s : State) : Result := .next (lda (s.readByte (eaZp z)) s)

/-- `LDA #v` (R100, R65). -/
def execLdaImm (v : Byte) (s : State) : Result := .next (lda v s)

/-- `LDA a` (R100, R68). -/
def execLdaAbs (a : Word) (s : State) : Result := .next (lda (s.readByte a) s)

/-- `LDA (z),Y` (R100, R72). -/
def execLdaIndy (z : Byte) (s : State) : Result := .next (lda (s.readByte (eaIndy z s)) s)

/-- `LDA z,X` (R100, R67). -/
def execLdaZpx (z : Byte) (s : State) : Result := .next (lda (s.readByte (eaZpx z s)) s)

/-- `LDA a,Y` (R100, R69). -/
def execLdaAbsy (a : Word) (s : State) : Result := .next (lda (s.readByte (eaAbsy a s)) s)

/-- `LDA a,X` (R100, R69). -/
def execLdaAbsx (a : Word) (s : State) : Result := .next (lda (s.readByte (eaAbsx a s)) s)

/-- LDX: X takes the byte, and Z and N come from it (R101). -/
def ldx (m : Byte) (s : State) : State := (s.setX m).setZN m

/-- `LDX #v` (R101, R65). -/
def execLdxImm (v : Byte) (s : State) : Result := .next (ldx v s)

/-- `LDX z` (R101, R66). -/
def execLdxZp (z : Byte) (s : State) : Result := .next (ldx (s.readByte (eaZp z)) s)

/-- `LDX a` (R101, R68). -/
def execLdxAbs (a : Word) (s : State) : Result := .next (ldx (s.readByte a) s)

/-- `LDX z,Y` (R101, R67). -/
def execLdxZpy (z : Byte) (s : State) : Result := .next (ldx (s.readByte (eaZpy z s)) s)

/-- `LDX a,Y` (R101, R69). -/
def execLdxAbsy (a : Word) (s : State) : Result := .next (ldx (s.readByte (eaAbsy a s)) s)

/-- LDY: Y takes the byte, and Z and N come from it (R102). -/
def ldy (m : Byte) (s : State) : State := (s.setY m).setZN m

/-- `LDY #v` (R102, R65). -/
def execLdyImm (v : Byte) (s : State) : Result := .next (ldy v s)

/-- `LDY z` (R102, R66). -/
def execLdyZp (z : Byte) (s : State) : Result := .next (ldy (s.readByte (eaZp z)) s)

/-- `LDY a` (R102, R68). -/
def execLdyAbs (a : Word) (s : State) : Result := .next (ldy (s.readByte a) s)

/-- `LDY z,X` (R102, R67). -/
def execLdyZpx (z : Byte) (s : State) : Result := .next (ldy (s.readByte (eaZpx z s)) s)

/-- `LDY a,X` (R102, R69). -/
def execLdyAbsx (a : Word) (s : State) : Result := .next (ldy (s.readByte (eaAbsx a s)) s)

/-! ## Stores -/

/-- STA: the byte at the effective address takes A; no flag is written and the target is not
read first (R103). -/
def sta (ea : Word) (s : State) : State := s.writeByte ea s.a

/-- `STA (z,X)` (R103, R71). -/
def execStaIndx (z : Byte) (s : State) : Result := .next (sta (eaIndx z s) s)

/-- `STA z` (R103, R66). -/
def execStaZp (z : Byte) (s : State) : Result := .next (sta (eaZp z) s)

/-- `STA a` (R103, R68). -/
def execStaAbs (a : Word) (s : State) : Result := .next (sta a s)

/-- `STA (z),Y` (R103, R72). -/
def execStaIndy (z : Byte) (s : State) : Result := .next (sta (eaIndy z s) s)

/-- `STA z,X` (R103, R67). -/
def execStaZpx (z : Byte) (s : State) : Result := .next (sta (eaZpx z s) s)

/-- `STA a,Y` (R103, R69). -/
def execStaAbsy (a : Word) (s : State) : Result := .next (sta (eaAbsy a s) s)

/-- `STA a,X` (R103, R69). -/
def execStaAbsx (a : Word) (s : State) : Result := .next (sta (eaAbsx a s) s)

/-- STX: the byte at the effective address takes X; no flag is written and the target is not
read first (R104). -/
def stx (ea : Word) (s : State) : State := s.writeByte ea s.x

/-- `STX z` (R104, R66). -/
def execStxZp (z : Byte) (s : State) : Result := .next (stx (eaZp z) s)

/-- `STX a` (R104, R68). -/
def execStxAbs (a : Word) (s : State) : Result := .next (stx a s)

/-- `STX z,Y` (R104, R67). -/
def execStxZpy (z : Byte) (s : State) : Result := .next (stx (eaZpy z s) s)

/-- STY: the byte at the effective address takes Y; no flag is written and the target is not
read first (R105). -/
def sty (ea : Word) (s : State) : State := s.writeByte ea s.y

/-- `STY z` (R105, R66). -/
def execStyZp (z : Byte) (s : State) : Result := .next (sty (eaZp z) s)

/-- `STY a` (R105, R68). -/
def execStyAbs (a : Word) (s : State) : Result := .next (sty a s)

/-- `STY z,X` (R105, R67). -/
def execStyZpx (z : Byte) (s : State) : Result := .next (sty (eaZpx z s) s)

/-! ## Register transfers -/

/-- `TAX` (R106). -/
def execTax (s : State) : Result := .next ((s.setX s.a).setZN s.a)

/-- `TAY` (R107). -/
def execTay (s : State) : Result := .next ((s.setY s.a).setZN s.a)

/-- `TXA` (R108). -/
def execTxa (s : State) : Result := .next ((s.setA s.x).setZN s.x)

/-- `TYA` (R109). -/
def execTya (s : State) : Result := .next ((s.setA s.y).setZN s.y)

/-- `TSX` (R110). -/
def execTsx (s : State) : Result := .next ((s.setX s.sp).setZN s.sp)

/-- `TXS` (R111). -/
def execTxs (s : State) : Result := .next (s.setSp s.x)

end Sys2Proof.Machine
end

