-- ==== Sys2Proof/Machine/Shift.lean ====
section
/-!
DEFINITION. Shifts and rotates (42_shift_rotate.md R140 to R144). Each is one of the four functions
of Machine/Flags.lean, applied to A or to a memory byte.
-/

namespace Sys2Proof.Machine

/-- A shift or rotate in accumulator mode: `(A, C) <- f(A, C)`, then Z and N (R140). -/
def shiftA (f : Byte → Bool → Byte × Bool) (s : State) : State :=
  let out := f s.a (getFlag s.p .c)
  (s.setA out.1).setP (shiftStatus out s.p)

/-- A shift or rotate of a memory byte: one read, then one write of the result, then the flags
(R140). -/
def shiftMemory (f : Byte → Bool → Byte × Bool) (ea : Word) (s : State) : State :=
  let out := f (s.readByte ea) (getFlag s.p .c)
  (s.writeByte ea out.1).setP (shiftStatus out s.p)

/-- `ASL z` (R141, R66). -/
def execAslZp (z : Byte) (s : State) : Result := .next (shiftMemory aslByte (eaZp z) s)

/-- `ASL A` (R141, R73). -/
def execAslAcc (s : State) : Result := .next (shiftA aslByte s)

/-- `ASL a` (R141, R68). -/
def execAslAbs (a : Word) (s : State) : Result := .next (shiftMemory aslByte a s)

/-- `ASL z,X` (R141, R67). -/
def execAslZpx (z : Byte) (s : State) : Result := .next (shiftMemory aslByte (eaZpx z s) s)

/-- `ASL a,X` (R141, R69). -/
def execAslAbsx (a : Word) (s : State) : Result := .next (shiftMemory aslByte (eaAbsx a s) s)

/-- `LSR z` (R142, R66). -/
def execLsrZp (z : Byte) (s : State) : Result := .next (shiftMemory lsrByte (eaZp z) s)

/-- `LSR A` (R142, R73). -/
def execLsrAcc (s : State) : Result := .next (shiftA lsrByte s)

/-- `LSR a` (R142, R68). -/
def execLsrAbs (a : Word) (s : State) : Result := .next (shiftMemory lsrByte a s)

/-- `LSR z,X` (R142, R67). -/
def execLsrZpx (z : Byte) (s : State) : Result := .next (shiftMemory lsrByte (eaZpx z s) s)

/-- `LSR a,X` (R142, R69). -/
def execLsrAbsx (a : Word) (s : State) : Result := .next (shiftMemory lsrByte (eaAbsx a s) s)

/-- `ROL z` (R143, R66). -/
def execRolZp (z : Byte) (s : State) : Result := .next (shiftMemory rolByte (eaZp z) s)

/-- `ROL A` (R143, R73). -/
def execRolAcc (s : State) : Result := .next (shiftA rolByte s)

/-- `ROL a` (R143, R68). -/
def execRolAbs (a : Word) (s : State) : Result := .next (shiftMemory rolByte a s)

/-- `ROL z,X` (R143, R67). -/
def execRolZpx (z : Byte) (s : State) : Result := .next (shiftMemory rolByte (eaZpx z s) s)

/-- `ROL a,X` (R143, R69). -/
def execRolAbsx (a : Word) (s : State) : Result := .next (shiftMemory rolByte (eaAbsx a s) s)

/-- `ROR z` (R144, R66). -/
def execRorZp (z : Byte) (s : State) : Result := .next (shiftMemory rorByte (eaZp z) s)

/-- `ROR A` (R144, R73). -/
def execRorAcc (s : State) : Result := .next (shiftA rorByte s)

/-- `ROR a` (R144, R68). -/
def execRorAbs (a : Word) (s : State) : Result := .next (shiftMemory rorByte a s)

/-- `ROR z,X` (R144, R67). -/
def execRorZpx (z : Byte) (s : State) : Result := .next (shiftMemory rorByte (eaZpx z s) s)

/-- `ROR a,X` (R144, R69). -/
def execRorAbsx (a : Word) (s : State) : Result := .next (shiftMemory rorByte (eaAbsx a s) s)

end Sys2Proof.Machine
end

