-- ==== Sys2Proof/Machine/System.lean ====
section
/-!
DEFINITION. Stack, flag and system instructions (44_stack_flags_system.md R170 to R184): the pushes
and pulls, the seven flag instructions, NOP, BRK and RTI.
-/

namespace Sys2Proof.Machine

/-! ## Stack instructions -/

/-- `PHA` (R170). -/
def execPha (s : State) : Result := .next (s.push8 s.a)

/-- `PHP` (R171). -/
def execPhp (s : State) : Result := .next (s.push8 (pushedStatus s.p))

/-- PLA: A takes the pulled byte, and Z and N come from it (R172). -/
def pullA (s : State) : State :=
  let v := s.pull8
  (v.2.setA v.1).setZN v.1

/-- PLP: P takes the pulled byte with Break cleared and Unused set (R173). -/
def pullStatus (s : State) : State :=
  let v := s.pull8
  v.2.setP (restoredStatus v.1)

/-- `PLA` (R172). -/
def execPla (s : State) : Result := .next (pullA s)

/-- `PLP` (R173). -/
def execPlp (s : State) : Result := .next (pullStatus s)

/-! ## Flag instructions -/

/-- `CLC` (R174). -/
def execClc (s : State) : Result := .next (s.setFlag .c false)

/-- `SEC` (R175). -/
def execSec (s : State) : Result := .next (s.setFlag .c true)

/-- `CLI` (R176). -/
def execCli (s : State) : Result := .next (s.setFlag .i false)

/-- `SEI` (R177). -/
def execSei (s : State) : Result := .next (s.setFlag .i true)

/-- `CLV` (R178). -/
def execClv (s : State) : Result := .next (s.setFlag .v false)

/-- `CLD` (R179). -/
def execCld (s : State) : Result := .next (s.setFlag .d false)

/-- `SED` (R180). -/
def execSed (s : State) : Result := .next (s.setFlag .d true)

/-! ## No-operation, software trap and return -/

/-- `NOP` (R181). -/
def execNop (s : State) : Result := .next (s)

/-- `BRK` (R183): the return address is past the padding byte, which is skipped unread (R79). -/
def execBrk (s : State) : Result := .next (s.enterTrap (s.pc + 1) Config.breakVector)

/-- `RTI` (R184). -/
def execRti (s : State) : Result := .next (s.returnFromTrap)

end Sys2Proof.Machine
end

