-- ==== Sys2Proof/Machine/Unassigned.lean ====
section
/-!
DEFINITION. The 105 unassigned opcode bytes (30_encoding.md R77): each is a one-byte no-op, with no
operand read and no fault (44_stack_flags_system.md R182). One definition per row of the opcode
table, all over the one shared operation.
-/

namespace Sys2Proof.Machine

/-- An unassigned opcode does nothing: PC has already advanced by 1 (R182). -/
def inertNoOp (s : State) : State := s

/-- Unassigned byte 0x02 (R182). -/
def execUnassigned02 (s : State) : Result := .next (inertNoOp s)

/-- Unassigned byte 0x03 (R182). -/
def execUnassigned03 (s : State) : Result := .next (inertNoOp s)

/-- Unassigned byte 0x04 (R182). -/
def execUnassigned04 (s : State) : Result := .next (inertNoOp s)

/-- Unassigned byte 0x07 (R182). -/
def execUnassigned07 (s : State) : Result := .next (inertNoOp s)

/-- Unassigned byte 0x0B (R182). -/
def execUnassigned0B (s : State) : Result := .next (inertNoOp s)

/-- Unassigned byte 0x0C (R182). -/
def execUnassigned0C (s : State) : Result := .next (inertNoOp s)

/-- Unassigned byte 0x0F (R182). -/
def execUnassigned0F (s : State) : Result := .next (inertNoOp s)

/-- Unassigned byte 0x12 (R182). -/
def execUnassigned12 (s : State) : Result := .next (inertNoOp s)

/-- Unassigned byte 0x13 (R182). -/
def execUnassigned13 (s : State) : Result := .next (inertNoOp s)

/-- Unassigned byte 0x14 (R182). -/
def execUnassigned14 (s : State) : Result := .next (inertNoOp s)

/-- Unassigned byte 0x17 (R182). -/
def execUnassigned17 (s : State) : Result := .next (inertNoOp s)

/-- Unassigned byte 0x1A (R182). -/
def execUnassigned1A (s : State) : Result := .next (inertNoOp s)

/-- Unassigned byte 0x1B (R182). -/
def execUnassigned1B (s : State) : Result := .next (inertNoOp s)

/-- Unassigned byte 0x1C (R182). -/
def execUnassigned1C (s : State) : Result := .next (inertNoOp s)

/-- Unassigned byte 0x1F (R182). -/
def execUnassigned1F (s : State) : Result := .next (inertNoOp s)

/-- Unassigned byte 0x22 (R182). -/
def execUnassigned22 (s : State) : Result := .next (inertNoOp s)

/-- Unassigned byte 0x23 (R182). -/
def execUnassigned23 (s : State) : Result := .next (inertNoOp s)

/-- Unassigned byte 0x27 (R182). -/
def execUnassigned27 (s : State) : Result := .next (inertNoOp s)

/-- Unassigned byte 0x2B (R182). -/
def execUnassigned2B (s : State) : Result := .next (inertNoOp s)

/-- Unassigned byte 0x2F (R182). -/
def execUnassigned2F (s : State) : Result := .next (inertNoOp s)

/-- Unassigned byte 0x32 (R182). -/
def execUnassigned32 (s : State) : Result := .next (inertNoOp s)

/-- Unassigned byte 0x33 (R182). -/
def execUnassigned33 (s : State) : Result := .next (inertNoOp s)

/-- Unassigned byte 0x34 (R182). -/
def execUnassigned34 (s : State) : Result := .next (inertNoOp s)

/-- Unassigned byte 0x37 (R182). -/
def execUnassigned37 (s : State) : Result := .next (inertNoOp s)

/-- Unassigned byte 0x3A (R182). -/
def execUnassigned3A (s : State) : Result := .next (inertNoOp s)

/-- Unassigned byte 0x3B (R182). -/
def execUnassigned3B (s : State) : Result := .next (inertNoOp s)

/-- Unassigned byte 0x3C (R182). -/
def execUnassigned3C (s : State) : Result := .next (inertNoOp s)

/-- Unassigned byte 0x3F (R182). -/
def execUnassigned3F (s : State) : Result := .next (inertNoOp s)

/-- Unassigned byte 0x42 (R182). -/
def execUnassigned42 (s : State) : Result := .next (inertNoOp s)

/-- Unassigned byte 0x43 (R182). -/
def execUnassigned43 (s : State) : Result := .next (inertNoOp s)

/-- Unassigned byte 0x44 (R182). -/
def execUnassigned44 (s : State) : Result := .next (inertNoOp s)

/-- Unassigned byte 0x47 (R182). -/
def execUnassigned47 (s : State) : Result := .next (inertNoOp s)

/-- Unassigned byte 0x4B (R182). -/
def execUnassigned4B (s : State) : Result := .next (inertNoOp s)

/-- Unassigned byte 0x4F (R182). -/
def execUnassigned4F (s : State) : Result := .next (inertNoOp s)

/-- Unassigned byte 0x52 (R182). -/
def execUnassigned52 (s : State) : Result := .next (inertNoOp s)

/-- Unassigned byte 0x53 (R182). -/
def execUnassigned53 (s : State) : Result := .next (inertNoOp s)

/-- Unassigned byte 0x54 (R182). -/
def execUnassigned54 (s : State) : Result := .next (inertNoOp s)

/-- Unassigned byte 0x57 (R182). -/
def execUnassigned57 (s : State) : Result := .next (inertNoOp s)

/-- Unassigned byte 0x5A (R182). -/
def execUnassigned5A (s : State) : Result := .next (inertNoOp s)

/-- Unassigned byte 0x5B (R182). -/
def execUnassigned5B (s : State) : Result := .next (inertNoOp s)

/-- Unassigned byte 0x5C (R182). -/
def execUnassigned5C (s : State) : Result := .next (inertNoOp s)

/-- Unassigned byte 0x5F (R182). -/
def execUnassigned5F (s : State) : Result := .next (inertNoOp s)

/-- Unassigned byte 0x62 (R182). -/
def execUnassigned62 (s : State) : Result := .next (inertNoOp s)

/-- Unassigned byte 0x63 (R182). -/
def execUnassigned63 (s : State) : Result := .next (inertNoOp s)

/-- Unassigned byte 0x64 (R182). -/
def execUnassigned64 (s : State) : Result := .next (inertNoOp s)

/-- Unassigned byte 0x67 (R182). -/
def execUnassigned67 (s : State) : Result := .next (inertNoOp s)

/-- Unassigned byte 0x6B (R182). -/
def execUnassigned6B (s : State) : Result := .next (inertNoOp s)

/-- Unassigned byte 0x6F (R182). -/
def execUnassigned6F (s : State) : Result := .next (inertNoOp s)

/-- Unassigned byte 0x72 (R182). -/
def execUnassigned72 (s : State) : Result := .next (inertNoOp s)

/-- Unassigned byte 0x73 (R182). -/
def execUnassigned73 (s : State) : Result := .next (inertNoOp s)

/-- Unassigned byte 0x74 (R182). -/
def execUnassigned74 (s : State) : Result := .next (inertNoOp s)

/-- Unassigned byte 0x77 (R182). -/
def execUnassigned77 (s : State) : Result := .next (inertNoOp s)

/-- Unassigned byte 0x7A (R182). -/
def execUnassigned7A (s : State) : Result := .next (inertNoOp s)

/-- Unassigned byte 0x7B (R182). -/
def execUnassigned7B (s : State) : Result := .next (inertNoOp s)

/-- Unassigned byte 0x7C (R182). -/
def execUnassigned7C (s : State) : Result := .next (inertNoOp s)

/-- Unassigned byte 0x7F (R182). -/
def execUnassigned7F (s : State) : Result := .next (inertNoOp s)

/-- Unassigned byte 0x80 (R182). -/
def execUnassigned80 (s : State) : Result := .next (inertNoOp s)

/-- Unassigned byte 0x82 (R182). -/
def execUnassigned82 (s : State) : Result := .next (inertNoOp s)

/-- Unassigned byte 0x83 (R182). -/
def execUnassigned83 (s : State) : Result := .next (inertNoOp s)

/-- Unassigned byte 0x87 (R182). -/
def execUnassigned87 (s : State) : Result := .next (inertNoOp s)

/-- Unassigned byte 0x89 (R182). -/
def execUnassigned89 (s : State) : Result := .next (inertNoOp s)

/-- Unassigned byte 0x8B (R182). -/
def execUnassigned8B (s : State) : Result := .next (inertNoOp s)

/-- Unassigned byte 0x8F (R182). -/
def execUnassigned8F (s : State) : Result := .next (inertNoOp s)

/-- Unassigned byte 0x92 (R182). -/
def execUnassigned92 (s : State) : Result := .next (inertNoOp s)

/-- Unassigned byte 0x93 (R182). -/
def execUnassigned93 (s : State) : Result := .next (inertNoOp s)

/-- Unassigned byte 0x97 (R182). -/
def execUnassigned97 (s : State) : Result := .next (inertNoOp s)

/-- Unassigned byte 0x9B (R182). -/
def execUnassigned9B (s : State) : Result := .next (inertNoOp s)

/-- Unassigned byte 0x9C (R182). -/
def execUnassigned9C (s : State) : Result := .next (inertNoOp s)

/-- Unassigned byte 0x9E (R182). -/
def execUnassigned9E (s : State) : Result := .next (inertNoOp s)

/-- Unassigned byte 0x9F (R182). -/
def execUnassigned9F (s : State) : Result := .next (inertNoOp s)

/-- Unassigned byte 0xA3 (R182). -/
def execUnassignedA3 (s : State) : Result := .next (inertNoOp s)

/-- Unassigned byte 0xA7 (R182). -/
def execUnassignedA7 (s : State) : Result := .next (inertNoOp s)

/-- Unassigned byte 0xAB (R182). -/
def execUnassignedAB (s : State) : Result := .next (inertNoOp s)

/-- Unassigned byte 0xAF (R182). -/
def execUnassignedAF (s : State) : Result := .next (inertNoOp s)

/-- Unassigned byte 0xB2 (R182). -/
def execUnassignedB2 (s : State) : Result := .next (inertNoOp s)

/-- Unassigned byte 0xB3 (R182). -/
def execUnassignedB3 (s : State) : Result := .next (inertNoOp s)

/-- Unassigned byte 0xB7 (R182). -/
def execUnassignedB7 (s : State) : Result := .next (inertNoOp s)

/-- Unassigned byte 0xBB (R182). -/
def execUnassignedBB (s : State) : Result := .next (inertNoOp s)

/-- Unassigned byte 0xBF (R182). -/
def execUnassignedBF (s : State) : Result := .next (inertNoOp s)

/-- Unassigned byte 0xC2 (R182). -/
def execUnassignedC2 (s : State) : Result := .next (inertNoOp s)

/-- Unassigned byte 0xC3 (R182). -/
def execUnassignedC3 (s : State) : Result := .next (inertNoOp s)

/-- Unassigned byte 0xC7 (R182). -/
def execUnassignedC7 (s : State) : Result := .next (inertNoOp s)

/-- Unassigned byte 0xCB (R182). -/
def execUnassignedCB (s : State) : Result := .next (inertNoOp s)

/-- Unassigned byte 0xCF (R182). -/
def execUnassignedCF (s : State) : Result := .next (inertNoOp s)

/-- Unassigned byte 0xD2 (R182). -/
def execUnassignedD2 (s : State) : Result := .next (inertNoOp s)

/-- Unassigned byte 0xD3 (R182). -/
def execUnassignedD3 (s : State) : Result := .next (inertNoOp s)

/-- Unassigned byte 0xD4 (R182). -/
def execUnassignedD4 (s : State) : Result := .next (inertNoOp s)

/-- Unassigned byte 0xD7 (R182). -/
def execUnassignedD7 (s : State) : Result := .next (inertNoOp s)

/-- Unassigned byte 0xDA (R182). -/
def execUnassignedDA (s : State) : Result := .next (inertNoOp s)

/-- Unassigned byte 0xDB (R182). -/
def execUnassignedDB (s : State) : Result := .next (inertNoOp s)

/-- Unassigned byte 0xDC (R182). -/
def execUnassignedDC (s : State) : Result := .next (inertNoOp s)

/-- Unassigned byte 0xDF (R182). -/
def execUnassignedDF (s : State) : Result := .next (inertNoOp s)

/-- Unassigned byte 0xE2 (R182). -/
def execUnassignedE2 (s : State) : Result := .next (inertNoOp s)

/-- Unassigned byte 0xE3 (R182). -/
def execUnassignedE3 (s : State) : Result := .next (inertNoOp s)

/-- Unassigned byte 0xE7 (R182). -/
def execUnassignedE7 (s : State) : Result := .next (inertNoOp s)

/-- Unassigned byte 0xEB (R182). -/
def execUnassignedEB (s : State) : Result := .next (inertNoOp s)

/-- Unassigned byte 0xEF (R182). -/
def execUnassignedEF (s : State) : Result := .next (inertNoOp s)

/-- Unassigned byte 0xF2 (R182). -/
def execUnassignedF2 (s : State) : Result := .next (inertNoOp s)

/-- Unassigned byte 0xF3 (R182). -/
def execUnassignedF3 (s : State) : Result := .next (inertNoOp s)

/-- Unassigned byte 0xF4 (R182). -/
def execUnassignedF4 (s : State) : Result := .next (inertNoOp s)

/-- Unassigned byte 0xF7 (R182). -/
def execUnassignedF7 (s : State) : Result := .next (inertNoOp s)

/-- Unassigned byte 0xFA (R182). -/
def execUnassignedFA (s : State) : Result := .next (inertNoOp s)

/-- Unassigned byte 0xFB (R182). -/
def execUnassignedFB (s : State) : Result := .next (inertNoOp s)

/-- Unassigned byte 0xFC (R182). -/
def execUnassignedFC (s : State) : Result := .next (inertNoOp s)

/-- Unassigned byte 0xFF (R182). -/
def execUnassignedFF (s : State) : Result := .next (inertNoOp s)

end Sys2Proof.Machine
end

