-- ==== Sys2Proof/Machine/Dispatch.lean ====
section
/-!
DEFINITION. The meaning of each instruction, one arm per constructor of `Instr`
(70_reset_and_hazards.md R222). PC has already passed the instruction's bytes (10_state.md R25).
-/

namespace Sys2Proof.Machine

def exec (i : Instr) (s : State) : Host.Outcome State Fault Refusal :=
  match i with
  | .brk => Sys2Proof.Machine.execBrk s
  | .oraIndx z => Sys2Proof.Machine.execOraIndx z s
  | .oraZp z => Sys2Proof.Machine.execOraZp z s
  | .aslZp z => Sys2Proof.Machine.execAslZp z s
  | .php => Sys2Proof.Machine.execPhp s
  | .oraImm v => Sys2Proof.Machine.execOraImm v s
  | .aslAcc => Sys2Proof.Machine.execAslAcc s
  | .oraAbs a => Sys2Proof.Machine.execOraAbs a s
  | .aslAbs a => Sys2Proof.Machine.execAslAbs a s
  | .bpl d => Sys2Proof.Machine.execBpl d s
  | .oraIndy z => Sys2Proof.Machine.execOraIndy z s
  | .oraZpx z => Sys2Proof.Machine.execOraZpx z s
  | .aslZpx z => Sys2Proof.Machine.execAslZpx z s
  | .clc => Sys2Proof.Machine.execClc s
  | .oraAbsy a => Sys2Proof.Machine.execOraAbsy a s
  | .oraAbsx a => Sys2Proof.Machine.execOraAbsx a s
  | .aslAbsx a => Sys2Proof.Machine.execAslAbsx a s
  | .jsr a => Sys2Proof.Machine.execJsr a s
  | .andIndx z => Sys2Proof.Machine.execAndIndx z s
  | .bitZp z => Sys2Proof.Machine.execBitZp z s
  | .andZp z => Sys2Proof.Machine.execAndZp z s
  | .rolZp z => Sys2Proof.Machine.execRolZp z s
  | .plp => Sys2Proof.Machine.execPlp s
  | .andImm v => Sys2Proof.Machine.execAndImm v s
  | .rolAcc => Sys2Proof.Machine.execRolAcc s
  | .bitAbs a => Sys2Proof.Machine.execBitAbs a s
  | .andAbs a => Sys2Proof.Machine.execAndAbs a s
  | .rolAbs a => Sys2Proof.Machine.execRolAbs a s
  | .bmi d => Sys2Proof.Machine.execBmi d s
  | .andIndy z => Sys2Proof.Machine.execAndIndy z s
  | .andZpx z => Sys2Proof.Machine.execAndZpx z s
  | .rolZpx z => Sys2Proof.Machine.execRolZpx z s
  | .sec => Sys2Proof.Machine.execSec s
  | .andAbsy a => Sys2Proof.Machine.execAndAbsy a s
  | .andAbsx a => Sys2Proof.Machine.execAndAbsx a s
  | .rolAbsx a => Sys2Proof.Machine.execRolAbsx a s
  | .rti => Sys2Proof.Machine.execRti s
  | .eorIndx z => Sys2Proof.Machine.execEorIndx z s
  | .eorZp z => Sys2Proof.Machine.execEorZp z s
  | .lsrZp z => Sys2Proof.Machine.execLsrZp z s
  | .pha => Sys2Proof.Machine.execPha s
  | .eorImm v => Sys2Proof.Machine.execEorImm v s
  | .lsrAcc => Sys2Proof.Machine.execLsrAcc s
  | .jmpAbs a => Sys2Proof.Machine.execJmpAbs a s
  | .eorAbs a => Sys2Proof.Machine.execEorAbs a s
  | .lsrAbs a => Sys2Proof.Machine.execLsrAbs a s
  | .bvc d => Sys2Proof.Machine.execBvc d s
  | .eorIndy z => Sys2Proof.Machine.execEorIndy z s
  | .eorZpx z => Sys2Proof.Machine.execEorZpx z s
  | .lsrZpx z => Sys2Proof.Machine.execLsrZpx z s
  | .cli => Sys2Proof.Machine.execCli s
  | .eorAbsy a => Sys2Proof.Machine.execEorAbsy a s
  | .eorAbsx a => Sys2Proof.Machine.execEorAbsx a s
  | .lsrAbsx a => Sys2Proof.Machine.execLsrAbsx a s
  | .rts => Sys2Proof.Machine.execRts s
  | .adcIndx z => Sys2Proof.Machine.execAdcIndx z s
  | .adcZp z => Sys2Proof.Machine.execAdcZp z s
  | .rorZp z => Sys2Proof.Machine.execRorZp z s
  | .pla => Sys2Proof.Machine.execPla s
  | .adcImm v => Sys2Proof.Machine.execAdcImm v s
  | .rorAcc => Sys2Proof.Machine.execRorAcc s
  | .jmpInd ptr => Sys2Proof.Machine.execJmpInd ptr s
  | .adcAbs a => Sys2Proof.Machine.execAdcAbs a s
  | .rorAbs a => Sys2Proof.Machine.execRorAbs a s
  | .bvs d => Sys2Proof.Machine.execBvs d s
  | .adcIndy z => Sys2Proof.Machine.execAdcIndy z s
  | .adcZpx z => Sys2Proof.Machine.execAdcZpx z s
  | .rorZpx z => Sys2Proof.Machine.execRorZpx z s
  | .sei => Sys2Proof.Machine.execSei s
  | .adcAbsy a => Sys2Proof.Machine.execAdcAbsy a s
  | .adcAbsx a => Sys2Proof.Machine.execAdcAbsx a s
  | .rorAbsx a => Sys2Proof.Machine.execRorAbsx a s
  | .staIndx z => Sys2Proof.Machine.execStaIndx z s
  | .styZp z => Sys2Proof.Machine.execStyZp z s
  | .staZp z => Sys2Proof.Machine.execStaZp z s
  | .stxZp z => Sys2Proof.Machine.execStxZp z s
  | .dey => Sys2Proof.Machine.execDey s
  | .txa => Sys2Proof.Machine.execTxa s
  | .styAbs a => Sys2Proof.Machine.execStyAbs a s
  | .staAbs a => Sys2Proof.Machine.execStaAbs a s
  | .stxAbs a => Sys2Proof.Machine.execStxAbs a s
  | .bcc d => Sys2Proof.Machine.execBcc d s
  | .staIndy z => Sys2Proof.Machine.execStaIndy z s
  | .styZpx z => Sys2Proof.Machine.execStyZpx z s
  | .staZpx z => Sys2Proof.Machine.execStaZpx z s
  | .stxZpy z => Sys2Proof.Machine.execStxZpy z s
  | .tya => Sys2Proof.Machine.execTya s
  | .staAbsy a => Sys2Proof.Machine.execStaAbsy a s
  | .txs => Sys2Proof.Machine.execTxs s
  | .staAbsx a => Sys2Proof.Machine.execStaAbsx a s
  | .ldyImm v => Sys2Proof.Machine.execLdyImm v s
  | .ldaIndx z => Sys2Proof.Machine.execLdaIndx z s
  | .ldxImm v => Sys2Proof.Machine.execLdxImm v s
  | .ldyZp z => Sys2Proof.Machine.execLdyZp z s
  | .ldaZp z => Sys2Proof.Machine.execLdaZp z s
  | .ldxZp z => Sys2Proof.Machine.execLdxZp z s
  | .tay => Sys2Proof.Machine.execTay s
  | .ldaImm v => Sys2Proof.Machine.execLdaImm v s
  | .tax => Sys2Proof.Machine.execTax s
  | .ldyAbs a => Sys2Proof.Machine.execLdyAbs a s
  | .ldaAbs a => Sys2Proof.Machine.execLdaAbs a s
  | .ldxAbs a => Sys2Proof.Machine.execLdxAbs a s
  | .bcs d => Sys2Proof.Machine.execBcs d s
  | .ldaIndy z => Sys2Proof.Machine.execLdaIndy z s
  | .ldyZpx z => Sys2Proof.Machine.execLdyZpx z s
  | .ldaZpx z => Sys2Proof.Machine.execLdaZpx z s
  | .ldxZpy z => Sys2Proof.Machine.execLdxZpy z s
  | .clv => Sys2Proof.Machine.execClv s
  | .ldaAbsy a => Sys2Proof.Machine.execLdaAbsy a s
  | .tsx => Sys2Proof.Machine.execTsx s
  | .ldyAbsx a => Sys2Proof.Machine.execLdyAbsx a s
  | .ldaAbsx a => Sys2Proof.Machine.execLdaAbsx a s
  | .ldxAbsy a => Sys2Proof.Machine.execLdxAbsy a s
  | .cpyImm v => Sys2Proof.Machine.execCpyImm v s
  | .cmpIndx z => Sys2Proof.Machine.execCmpIndx z s
  | .cpyZp z => Sys2Proof.Machine.execCpyZp z s
  | .cmpZp z => Sys2Proof.Machine.execCmpZp z s
  | .decZp z => Sys2Proof.Machine.execDecZp z s
  | .iny => Sys2Proof.Machine.execIny s
  | .cmpImm v => Sys2Proof.Machine.execCmpImm v s
  | .dex => Sys2Proof.Machine.execDex s
  | .cpyAbs a => Sys2Proof.Machine.execCpyAbs a s
  | .cmpAbs a => Sys2Proof.Machine.execCmpAbs a s
  | .decAbs a => Sys2Proof.Machine.execDecAbs a s
  | .bne d => Sys2Proof.Machine.execBne d s
  | .cmpIndy z => Sys2Proof.Machine.execCmpIndy z s
  | .cmpZpx z => Sys2Proof.Machine.execCmpZpx z s
  | .decZpx z => Sys2Proof.Machine.execDecZpx z s
  | .cld => Sys2Proof.Machine.execCld s
  | .cmpAbsy a => Sys2Proof.Machine.execCmpAbsy a s
  | .cmpAbsx a => Sys2Proof.Machine.execCmpAbsx a s
  | .decAbsx a => Sys2Proof.Machine.execDecAbsx a s
  | .cpxImm v => Sys2Proof.Machine.execCpxImm v s
  | .sbcIndx z => Sys2Proof.Machine.execSbcIndx z s
  | .cpxZp z => Sys2Proof.Machine.execCpxZp z s
  | .sbcZp z => Sys2Proof.Machine.execSbcZp z s
  | .incZp z => Sys2Proof.Machine.execIncZp z s
  | .inx => Sys2Proof.Machine.execInx s
  | .sbcImm v => Sys2Proof.Machine.execSbcImm v s
  | .nop => Sys2Proof.Machine.execNop s
  | .cpxAbs a => Sys2Proof.Machine.execCpxAbs a s
  | .sbcAbs a => Sys2Proof.Machine.execSbcAbs a s
  | .incAbs a => Sys2Proof.Machine.execIncAbs a s
  | .beq d => Sys2Proof.Machine.execBeq d s
  | .sbcIndy z => Sys2Proof.Machine.execSbcIndy z s
  | .sbcZpx z => Sys2Proof.Machine.execSbcZpx z s
  | .incZpx z => Sys2Proof.Machine.execIncZpx z s
  | .sed => Sys2Proof.Machine.execSed s
  | .sbcAbsy a => Sys2Proof.Machine.execSbcAbsy a s
  | .sbcAbsx a => Sys2Proof.Machine.execSbcAbsx a s
  | .incAbsx a => Sys2Proof.Machine.execIncAbsx a s
  | .unassigned02 => Sys2Proof.Machine.execUnassigned02 s
  | .unassigned03 => Sys2Proof.Machine.execUnassigned03 s
  | .unassigned04 => Sys2Proof.Machine.execUnassigned04 s
  | .unassigned07 => Sys2Proof.Machine.execUnassigned07 s
  | .unassigned0B => Sys2Proof.Machine.execUnassigned0B s
  | .unassigned0C => Sys2Proof.Machine.execUnassigned0C s
  | .unassigned0F => Sys2Proof.Machine.execUnassigned0F s
  | .unassigned12 => Sys2Proof.Machine.execUnassigned12 s
  | .unassigned13 => Sys2Proof.Machine.execUnassigned13 s
  | .unassigned14 => Sys2Proof.Machine.execUnassigned14 s
  | .unassigned17 => Sys2Proof.Machine.execUnassigned17 s
  | .unassigned1A => Sys2Proof.Machine.execUnassigned1A s
  | .unassigned1B => Sys2Proof.Machine.execUnassigned1B s
  | .unassigned1C => Sys2Proof.Machine.execUnassigned1C s
  | .unassigned1F => Sys2Proof.Machine.execUnassigned1F s
  | .unassigned22 => Sys2Proof.Machine.execUnassigned22 s
  | .unassigned23 => Sys2Proof.Machine.execUnassigned23 s
  | .unassigned27 => Sys2Proof.Machine.execUnassigned27 s
  | .unassigned2B => Sys2Proof.Machine.execUnassigned2B s
  | .unassigned2F => Sys2Proof.Machine.execUnassigned2F s
  | .unassigned32 => Sys2Proof.Machine.execUnassigned32 s
  | .unassigned33 => Sys2Proof.Machine.execUnassigned33 s
  | .unassigned34 => Sys2Proof.Machine.execUnassigned34 s
  | .unassigned37 => Sys2Proof.Machine.execUnassigned37 s
  | .unassigned3A => Sys2Proof.Machine.execUnassigned3A s
  | .unassigned3B => Sys2Proof.Machine.execUnassigned3B s
  | .unassigned3C => Sys2Proof.Machine.execUnassigned3C s
  | .unassigned3F => Sys2Proof.Machine.execUnassigned3F s
  | .unassigned42 => Sys2Proof.Machine.execUnassigned42 s
  | .unassigned43 => Sys2Proof.Machine.execUnassigned43 s
  | .unassigned44 => Sys2Proof.Machine.execUnassigned44 s
  | .unassigned47 => Sys2Proof.Machine.execUnassigned47 s
  | .unassigned4B => Sys2Proof.Machine.execUnassigned4B s
  | .unassigned4F => Sys2Proof.Machine.execUnassigned4F s
  | .unassigned52 => Sys2Proof.Machine.execUnassigned52 s
  | .unassigned53 => Sys2Proof.Machine.execUnassigned53 s
  | .unassigned54 => Sys2Proof.Machine.execUnassigned54 s
  | .unassigned57 => Sys2Proof.Machine.execUnassigned57 s
  | .unassigned5A => Sys2Proof.Machine.execUnassigned5A s
  | .unassigned5B => Sys2Proof.Machine.execUnassigned5B s
  | .unassigned5C => Sys2Proof.Machine.execUnassigned5C s
  | .unassigned5F => Sys2Proof.Machine.execUnassigned5F s
  | .unassigned62 => Sys2Proof.Machine.execUnassigned62 s
  | .unassigned63 => Sys2Proof.Machine.execUnassigned63 s
  | .unassigned64 => Sys2Proof.Machine.execUnassigned64 s
  | .unassigned67 => Sys2Proof.Machine.execUnassigned67 s
  | .unassigned6B => Sys2Proof.Machine.execUnassigned6B s
  | .unassigned6F => Sys2Proof.Machine.execUnassigned6F s
  | .unassigned72 => Sys2Proof.Machine.execUnassigned72 s
  | .unassigned73 => Sys2Proof.Machine.execUnassigned73 s
  | .unassigned74 => Sys2Proof.Machine.execUnassigned74 s
  | .unassigned77 => Sys2Proof.Machine.execUnassigned77 s
  | .unassigned7A => Sys2Proof.Machine.execUnassigned7A s
  | .unassigned7B => Sys2Proof.Machine.execUnassigned7B s
  | .unassigned7C => Sys2Proof.Machine.execUnassigned7C s
  | .unassigned7F => Sys2Proof.Machine.execUnassigned7F s
  | .unassigned80 => Sys2Proof.Machine.execUnassigned80 s
  | .unassigned82 => Sys2Proof.Machine.execUnassigned82 s
  | .unassigned83 => Sys2Proof.Machine.execUnassigned83 s
  | .unassigned87 => Sys2Proof.Machine.execUnassigned87 s
  | .unassigned89 => Sys2Proof.Machine.execUnassigned89 s
  | .unassigned8B => Sys2Proof.Machine.execUnassigned8B s
  | .unassigned8F => Sys2Proof.Machine.execUnassigned8F s
  | .unassigned92 => Sys2Proof.Machine.execUnassigned92 s
  | .unassigned93 => Sys2Proof.Machine.execUnassigned93 s
  | .unassigned97 => Sys2Proof.Machine.execUnassigned97 s
  | .unassigned9B => Sys2Proof.Machine.execUnassigned9B s
  | .unassigned9C => Sys2Proof.Machine.execUnassigned9C s
  | .unassigned9E => Sys2Proof.Machine.execUnassigned9E s
  | .unassigned9F => Sys2Proof.Machine.execUnassigned9F s
  | .unassignedA3 => Sys2Proof.Machine.execUnassignedA3 s
  | .unassignedA7 => Sys2Proof.Machine.execUnassignedA7 s
  | .unassignedAB => Sys2Proof.Machine.execUnassignedAB s
  | .unassignedAF => Sys2Proof.Machine.execUnassignedAF s
  | .unassignedB2 => Sys2Proof.Machine.execUnassignedB2 s
  | .unassignedB3 => Sys2Proof.Machine.execUnassignedB3 s
  | .unassignedB7 => Sys2Proof.Machine.execUnassignedB7 s
  | .unassignedBB => Sys2Proof.Machine.execUnassignedBB s
  | .unassignedBF => Sys2Proof.Machine.execUnassignedBF s
  | .unassignedC2 => Sys2Proof.Machine.execUnassignedC2 s
  | .unassignedC3 => Sys2Proof.Machine.execUnassignedC3 s
  | .unassignedC7 => Sys2Proof.Machine.execUnassignedC7 s
  | .unassignedCB => Sys2Proof.Machine.execUnassignedCB s
  | .unassignedCF => Sys2Proof.Machine.execUnassignedCF s
  | .unassignedD2 => Sys2Proof.Machine.execUnassignedD2 s
  | .unassignedD3 => Sys2Proof.Machine.execUnassignedD3 s
  | .unassignedD4 => Sys2Proof.Machine.execUnassignedD4 s
  | .unassignedD7 => Sys2Proof.Machine.execUnassignedD7 s
  | .unassignedDA => Sys2Proof.Machine.execUnassignedDA s
  | .unassignedDB => Sys2Proof.Machine.execUnassignedDB s
  | .unassignedDC => Sys2Proof.Machine.execUnassignedDC s
  | .unassignedDF => Sys2Proof.Machine.execUnassignedDF s
  | .unassignedE2 => Sys2Proof.Machine.execUnassignedE2 s
  | .unassignedE3 => Sys2Proof.Machine.execUnassignedE3 s
  | .unassignedE7 => Sys2Proof.Machine.execUnassignedE7 s
  | .unassignedEB => Sys2Proof.Machine.execUnassignedEB s
  | .unassignedEF => Sys2Proof.Machine.execUnassignedEF s
  | .unassignedF2 => Sys2Proof.Machine.execUnassignedF2 s
  | .unassignedF3 => Sys2Proof.Machine.execUnassignedF3 s
  | .unassignedF4 => Sys2Proof.Machine.execUnassignedF4 s
  | .unassignedF7 => Sys2Proof.Machine.execUnassignedF7 s
  | .unassignedFA => Sys2Proof.Machine.execUnassignedFA s
  | .unassignedFB => Sys2Proof.Machine.execUnassignedFB s
  | .unassignedFC => Sys2Proof.Machine.execUnassignedFC s
  | .unassignedFF => Sys2Proof.Machine.execUnassignedFF s

end Sys2Proof.Machine
end

