-- ==== Sys2Proof/Machine/Step.lean ====
section
/-!
DEFINITION. The step (70_reset_and_hazards.md R221, R222): one whole instruction as one atomic
transition. `fetch` and `passInstr` (Machine/Ops.lean) read the instruction's bytes and advance PC
past them; `exec` performs the operation.
-/

namespace Sys2Proof.Machine

/-- `step()`: fetches the instruction at PC, advances PC past its bytes, and runs its operation. It is
the one unit of progress, exactly one instruction; no time is counted (R228). -/
def step (s : State) : Host.Outcome State Fault Refusal := exec s.fetch (s.passInstr s.fetch)

/-- The state with the three bytes of an instruction of the opcode table stored where the next step
fetches. The bytes are stored as the host's loader stores them, without a console event
(R224). -/
def State.withFetchWord (s : State) (nbits w : Nat) : State := s.placeCode (tableWordBytes nbits w)

end Sys2Proof.Machine
end

