-- ==== Sys2Proof/WellFormed.lean ====
section
/-!
DEFINITION. When an operation with an operand is an instruction of this engine (30_encoding.md R76,
R77, R78, R89): its mnemonic has an encoding in that mode, or it is one of the 105 unassigned
bytes. An `Instr` has one constructor per encoding that exists, with operand fields of exactly the
format's width, so every `Instr` is well formed (Laws/PerInstr.lean); the checks refuse the shapes
that have no encoding.
-/

namespace Sys2Proof

/-- The shape has an encoding: a table entry (R76), or a byte of R77's list. -/
def Shape.wellFormed : Shape → Bool
  | .documented mn o => (mn.opcode o.mode).isSome
  | .unassigned b0 => unassignedOpcodes.contains b0

/-- The instruction is one of the engine's: its shape has an encoding. -/
def Instr.wellFormed (i : Instr) : Bool := i.shape.wellFormed

end Sys2Proof
end

