-- ==== Sys2Proof/Machine/Assembler.lean ====
section
/-!
DEFINITION. The two-pass assembler of 30_encoding.md R80 to R99: the toolchain spelling of the
instructions, software around the block (00_scope.md R5). The model of the engine does not depend on
it. Source text is a list of characters, so that everything here is plain structural recursion.
-/

namespace Sys2Proof.Asm

/-! ## Results (R80, R94, R95) -/

/-- The diagnostic classes (R94, R95). -/
inductive Problem where
  /-- The line's first token is no mnemonic and no directive (R87). -/
  | unknownMnemonic
  /-- A value is neither a literal nor an identifier (R92, R93). -/
  | malformedLiteral
  /-- The label is already bound (R83). -/
  | duplicateLabel
  /-- The mnemonic has no encoding in the inferred mode (R89). -/
  | invalidAddressingMode
  /-- The displacement is outside −128..127 (R91). -/
  | branchOutOfRange
  /-- The operand names a label that is not bound (R92). -/
  | unresolvedOperand
  /-- The line emits a byte below the start address (R95), or binds a label that an `.ORG` before it
  made the two passes place at different addresses (R96, assumption 11). -/
  | invalidOrigin
  deriving DecidableEq, Repr

/-- A diagnostic with its 1-based line number (R94). -/
structure Diagnostic where
  line : Nat
  problem : Problem
  deriving DecidableEq, Repr

/-- What `assemble` returns (R80, R95). -/
structure Output where
  machineCode : List Byte
  errors : List Diagnostic
  startAddress : Word
  lineMap : List (Word × Nat)
  deriving DecidableEq, Repr

/-! ## Characters -/

/-- White space around tokens (assumption 9). -/
def isSpace (ch : Char) : Bool := ch == ' ' || ch == '\t' || ch == '\r'

def isDigit (ch : Char) : Bool := '0'.toNat ≤ ch.toNat && ch.toNat ≤ '9'.toNat

def isUpper (ch : Char) : Bool := 'A'.toNat ≤ ch.toNat && ch.toNat ≤ 'Z'.toNat

def isLower (ch : Char) : Bool := 'a'.toNat ≤ ch.toNat && ch.toNat ≤ 'z'.toNat

/-- The first character of an identifier: a letter or `_` (R83). -/
def isIdentStart (ch : Char) : Bool := isUpper ch || isLower ch || ch == '_'

/-- A later character of an identifier (R83). -/
def isIdentRest (ch : Char) : Bool := isIdentStart ch || isDigit ch

/-- Case folding of letters (R83, R84, R88). -/
def foldChar (ch : Char) : Char := if isLower ch then Char.ofNat (ch.toNat - 32) else ch

def fold (cs : List Char) : List Char := cs.map foldChar

/-- Surrounding white space removed. -/
def trim (cs : List Char) : List Char :=
  ((cs.dropWhile isSpace).reverse.dropWhile isSpace).reverse

/-- The pieces of a list between the occurrences of a character. -/
def splitAt (sep : Char) : List Char → List (List Char)
  | [] => [[]]
  | ch :: cs =>
    if ch == sep then [] :: splitAt sep cs
    else match splitAt sep cs with
      | [] => [[ch]]
      | piece :: pieces => (ch :: piece) :: pieces

/-! ## Values (R92, R93) -/

/-- A value as it is written: there are no operators (R93). -/
inductive Term where
  | number (n : Nat)
  /-- An identifier, case-folded. -/
  | name (ident : List Char)
  | malformed
  deriving DecidableEq, Repr

/-- The value of a digit character, letters being digits from 10 on. -/
def digitValue (ch : Char) : Nat :=
  if isDigit ch then ch.toNat - '0'.toNat else (foldChar ch).toNat - 'A'.toNat + 10

/-- A run of digits read in a base, or `malformed` when it is empty or a character is no digit of
the base. -/
def number (base : Nat) (cs : List Char) : Term :=
  if cs ≠ [] ∧ cs.all (fun ch => (isDigit ch || isUpper ch || isLower ch) && digitValue ch < base)
  then .number (cs.foldl (fun n ch => n * base + digitValue ch) 0)
  else .malformed

/-- Is this an identifier (R83)? -/
def isIdent : List Char → Bool
  | [] => false
  | ch :: cs => isIdentStart ch && cs.all isIdentRest

/-- Reads a value: `$` hexadecimal, `%` binary, bare digits decimal, an identifier a label (R93). -/
def parseTerm (text : List Char) : Term :=
  let cs := trim text
  match cs with
  | '$' :: digits => number 16 digits
  | '%' :: digits => number 2 digits
  | _ => if isIdent cs then .name (fold cs) else number 10 cs

/-- The label table: case-folded identifiers and their addresses, the newest binding first (R83). -/
abbrev Labels := List (List Char × Nat)

/-- What a term resolves to against a label table. -/
inductive Resolution where
  | value (n : Nat)
  | unbound
  | malformed
  deriving DecidableEq, Repr

def Term.resolve (labels : Labels) : Term → Resolution
  | .number n => .value n
  | .malformed => .malformed
  | .name ident =>
    match labels.find? fun binding => binding.1 == ident with
    | some binding => .value binding.2
    | none => .unbound

/-- The value with 0 in place of one that does not resolve (R92). -/
def Resolution.orZero : Resolution → Nat
  | .value n => n
  | .unbound | .malformed => 0

/-- The diagnostic of a value that does not resolve (R92). -/
def Resolution.problems : Resolution → List Problem
  | .value _ => []
  | .unbound => [.unresolvedOperand]
  | .malformed => [.malformedLiteral]

/-! ## Operand forms and mode inference (R88) -/

/-- The form an operand is written in, in the order R88 tests for it. -/
inductive Form where
  | empty
  | accumulator
  | immediate (t : Term)
  | indexedIndirect (t : Term)
  | indirectIndexed (t : Term)
  | indirect (t : Term)
  | indexedX (t : Term)
  | indexedY (t : Term)
  | plain (t : Term)
  deriving DecidableEq, Repr

/-- The text before a trailing `,X` or `,Y`, if the text ends so. -/
def stripIndex (reg : Char) (cs : List Char) : Option (List Char) :=
  match cs.reverse with
  | last :: rest =>
    if last == reg then
      match rest.dropWhile isSpace with
      | ',' :: base => some (trim base.reverse)
      | _ => none
    else none
  | [] => none

/-- The text inside an opening and a closing parenthesis, if the text stands in them. -/
def inParentheses (cs : List Char) : Option (List Char) :=
  match cs with
  | '(' :: rest =>
    match rest.reverse with
    | ')' :: inner => some (trim inner.reverse)
    | _ => none
  | _ => none

/-- The form of an operand; the first test that matches wins (R88, items 1 to 7). -/
def parseForm (operand : List Char) : Form :=
  let cs := fold (trim operand)
  match cs with
  | [] => .empty
  | ['A'] => .accumulator
  | '#' :: rest => .immediate (parseTerm rest)
  | _ =>
    match (inParentheses cs).bind (stripIndex 'X') with
    | some expr => .indexedIndirect (parseTerm expr)
    | none =>
      match (stripIndex 'Y' cs).bind inParentheses with
      | some expr => .indirectIndexed (parseTerm expr)
      | none =>
        match inParentheses cs with
        | some expr => .indirect (parseTerm expr)
        | none =>
          match stripIndex 'X' cs, stripIndex 'Y' cs with
          | some base, _ => .indexedX (parseTerm base)
          | none, some base => .indexedY (parseTerm base)
          | none, none => .plain (parseTerm cs)

/-- The value a form holds, if it holds one. -/
def Form.term : Form → Option Term
  | .empty | .accumulator => none
  | .immediate t | .indexedIndirect t | .indirectIndexed t | .indirect t | .indexedX t
  | .indexedY t | .plain t => some t

/-- Does the mnemonic have an encoding in the mode (R76)? -/
def hasMode (mn : Mnemonic) (md : Mode) : Bool := (mn.opcode md).isSome

/-- Does the mnemonic have only a relative encoding (R88, item 8)? -/
def onlyRelative (mn : Mnemonic) : Bool := mn.forms.map Prod.fst == [.rel]

/-- Zero-page if the address is at most 0xFF and the mnemonic has that mode, otherwise absolute;
with an unknown address, absolute if the mnemonic has it, otherwise as for the address 0 (R88,
items 7 and 9; R96). DESIGN CHOICE (assumption 18), unsafe: `STX FWD,Y` and `STY FWD,X` with a label
bound later are so sized zero-page, by R96's third sentence, though D25 speaks of absolute. -/
def sizeByAddress (mn : Mnemonic) (zeroPage absolute : Mode) (address : Option Nat) : Mode :=
  match address with
  | some v => if v ≤ 0xFF && hasMode mn zeroPage then zeroPage else absolute
  | none => if hasMode mn absolute then absolute else if hasMode mn zeroPage then zeroPage else absolute

/-- The addressing mode of a form, where `address` is the value of its term as an address, or none
for a label that is not bound yet (R88, R96). -/
def inferMode (mn : Mnemonic) (form : Form) (address : Option Nat) : Mode :=
  match form with
  | .empty => .imp
  | .accumulator => .acc
  | .immediate _ => .imm
  | .indexedIndirect _ => .indx
  | .indirectIndexed _ => .indy
  | .indirect _ => .ind
  | .indexedX _ => sizeByAddress mn .zpx .absx address
  | .indexedY _ => sizeByAddress mn .zpy .absy address
  | .plain _ =>
    if onlyRelative mn then .rel
    else
      let chosen := sizeByAddress mn .zp .abs address
      if chosen == .abs && !hasMode mn .abs && hasMode mn .zp then .zp else chosen

/-! ## Lines (R82 to R87) -/

/-- What a line says after its label. -/
inductive Statement where
  | nothing
  /-- `.ORG <value>` (R85). -/
  | org (t : Term)
  /-- `.BYTE "text"`: the character codes (R86). -/
  | text (codes : List Byte)
  /-- `.BYTE <list>` (R86). -/
  | bytes (ts : List Term)
  | instruction (mn : Mnemonic) (form : Form)
  | unknown
  deriving DecidableEq, Repr

/-- A line: its 1-based number, its label, case-folded, and its statement. -/
structure Line where
  number : Nat
  label : Option (List Char)
  statement : Statement
  deriving DecidableEq, Repr

/-- The 56 mnemonics with their spelling. -/
def mnemonicNames : List (List Char × Mnemonic) := [
  (['A', 'D', 'C'], .adc), (['A', 'N', 'D'], .and), (['A', 'S', 'L'], .asl), (['B', 'C', 'C'], .bcc),
  (['B', 'C', 'S'], .bcs), (['B', 'E', 'Q'], .beq), (['B', 'I', 'T'], .bit), (['B', 'M', 'I'], .bmi),
  (['B', 'N', 'E'], .bne), (['B', 'P', 'L'], .bpl), (['B', 'R', 'K'], .brk), (['B', 'V', 'C'], .bvc),
  (['B', 'V', 'S'], .bvs), (['C', 'L', 'C'], .clc), (['C', 'L', 'D'], .cld), (['C', 'L', 'I'], .cli),
  (['C', 'L', 'V'], .clv), (['C', 'M', 'P'], .cmp), (['C', 'P', 'X'], .cpx), (['C', 'P', 'Y'], .cpy),
  (['D', 'E', 'C'], .dec), (['D', 'E', 'X'], .dex), (['D', 'E', 'Y'], .dey), (['E', 'O', 'R'], .eor),
  (['I', 'N', 'C'], .inc), (['I', 'N', 'X'], .inx), (['I', 'N', 'Y'], .iny), (['J', 'M', 'P'], .jmp),
  (['J', 'S', 'R'], .jsr), (['L', 'D', 'A'], .lda), (['L', 'D', 'X'], .ldx), (['L', 'D', 'Y'], .ldy),
  (['L', 'S', 'R'], .lsr), (['N', 'O', 'P'], .nop), (['O', 'R', 'A'], .ora), (['P', 'H', 'A'], .pha),
  (['P', 'H', 'P'], .php), (['P', 'L', 'A'], .pla), (['P', 'L', 'P'], .plp), (['R', 'O', 'L'], .rol),
  (['R', 'O', 'R'], .ror), (['R', 'T', 'I'], .rti), (['R', 'T', 'S'], .rts), (['S', 'B', 'C'], .sbc),
  (['S', 'E', 'C'], .sec), (['S', 'E', 'D'], .sed), (['S', 'E', 'I'], .sei), (['S', 'T', 'A'], .sta),
  (['S', 'T', 'X'], .stx), (['S', 'T', 'Y'], .sty), (['T', 'A', 'X'], .tax), (['T', 'A', 'Y'], .tay),
  (['T', 'S', 'X'], .tsx), (['T', 'X', 'A'], .txa), (['T', 'X', 'S'], .txs), (['T', 'Y', 'A'], .tya)]

/-- The characters of a string in double quotes without inner quotes (R86). -/
def quotedText (cs : List Char) : Option (List Char) :=
  match cs with
  | '"' :: rest =>
    match rest.reverse with
    | '"' :: inner => if inner.contains '"' then none else some inner.reverse
    | _ => none
  | _ => none

/-- The operand of `.BYTE`: one quoted string, or a list of values (R86). -/
def parseBytes (operand : List Char) : Statement :=
  match quotedText operand with
  | some chars => .text (chars.map fun ch => BitVec.ofNat 8 ch.toNat)
  | none => .bytes ((splitAt ',' operand).map parseTerm)

/-- A statement: a first token, case-insensitive, and the rest as its operand (R84 to R88). DESIGN
CHOICE (assumption 9), unsafe: only white space ends the first token, so that `LDA#$05` is an unknown
mnemonic; R84 does not say what ends it. -/
def parseStatement (cs : List Char) : Statement :=
  let token := fold (cs.takeWhile fun ch => !isSpace ch)
  let operand := trim (cs.dropWhile fun ch => !isSpace ch)
  if cs.isEmpty then .nothing
  else if token == ['.', 'O', 'R', 'G'] then .org (parseTerm operand)
  else if token == ['.', 'B', 'Y', 'T', 'E'] then parseBytes operand
  else match mnemonicNames.find? fun entry => entry.1 == token with
    | some entry => .instruction entry.2 (parseForm operand)
    | none => .unknown

/-- One source line: the comment and the surrounding white space are removed, then the label is
taken off (R82, R83). -/
def parseLine (number : Nat) (text : List Char) : Line :=
  let cs := trim (text.takeWhile fun ch => ch != ';')
  let ident := cs.takeWhile isIdentRest
  match isIdent ident, cs.dropWhile isIdentRest with
  | true, ':' :: rest => { number, label := some (fold ident), statement := parseStatement (trim rest) }
  | _, _ => { number, label := none, statement := parseStatement cs }

/-- The lines of a text from a line number on. -/
def numberLines : Nat → List (List Char) → List Line
  | _, [] => []
  | n, text :: texts => parseLine n text :: numberLines (n + 1) texts

/-- The lines of a source text, numbered from 1 (R82). -/
def parseSource (source : List Char) : List Line := numberLines 1 (splitAt '\n' source)

/-! ## Pass 1 (R81, R83, R85, R96) -/

/-- A line as pass 1 places it. -/
structure Placed where
  line : Line
  /-- The cursor of pass 1 at the line, to which the line's label is bound. -/
  address : Nat
  /-- The label was bound before (R83). -/
  duplicate : Bool
  /-- The addressing mode chosen for an instruction (R88, R96). -/
  mode : Mode
  deriving DecidableEq, Repr

/-- The value of a form's term as an address, masked to 16 bits (R93); none for a label that is not
bound. DESIGN CHOICE (assumption 19), unsafe: a malformed literal counts as 0, which R92 substitutes,
also where the address sizes the line, though D25 sizes a value unresolvable in pass 1 absolute. -/
def formAddress (labels : Labels) (form : Form) : Option Nat :=
  match form.term.map (Term.resolve labels) with
  | some .unbound => none
  | some r => some (r.orZero % 65536)
  | none => some 0

/-- The number of bytes of a placed line (R61, R86, R87, R89). -/
def Placed.size (l : Placed) : Nat :=
  match l.line.statement with
  | .nothing | .org _ | .unknown => 0
  | .text codes => codes.length
  | .bytes ts => ts.length
  | .instruction _ _ => l.mode.length

/-- Where a line leaves the cursor that stands before it: `.ORG` sets it to what its value resolves to
against the pass's label table (R81, R85), every other line advances it by its bytes. -/
def Placed.advance (labels : Labels) (cursor : Nat) (l : Placed) : Nat :=
  match l.line.statement with
  | .org t => (t.resolve labels).orZero % 65536
  | _ => cursor + l.size

/-- The label table after a line's label is bound at the cursor (R83). -/
def bindLabel (labels : Labels) (cursor : Nat) (line : Line) : Labels :=
  match line.label with
  | some ident => (ident, cursor % 65536) :: labels
  | none => labels

/-- Places one line at the cursor. `labels` are those bound before it, `bound` those with its own
label. -/
def placeLine (labels bound : Labels) (cursor : Nat) (line : Line) : Placed where
  line := line
  address := cursor
  duplicate :=
    match line.label with
    | some ident => labels.any fun binding => binding.1 == ident
    | none => false
  mode :=
    match line.statement with
    | .instruction mn form => inferMode mn form (formAddress bound form)
    | _ => .imp

/-- Pass 1: places every line and binds the labels to the running cursor (R81). An `.ORG` whose label
is not bound yet sets the cursor to 0, the value R92 substitutes (assumption 11). -/
def pass1 (labels : Labels) (cursor : Nat) : List Line → List Placed × Labels
  | [] => ([], labels)
  | line :: lines =>
    let bound := bindLabel labels cursor line
    let placed := placeLine labels bound cursor line
    let rest := pass1 bound (placed.advance bound cursor) lines
    (placed :: rest.1, rest.2)

/-! ## Pass 2 (R81, R89 to R92) -/

/-- The operand of a mode with a value: its low byte, or all 16 bits (R90, R93). -/
def operandOf (md : Mode) (v : Nat) : Operand :=
  match md with
  | .imp => .imp
  | .acc => .acc
  | .imm => .imm (BitVec.ofNat 8 v)
  | .zp => .zp (BitVec.ofNat 8 v)
  | .zpx => .zpx (BitVec.ofNat 8 v)
  | .zpy => .zpy (BitVec.ofNat 8 v)
  | .abs => .abs (BitVec.ofNat 16 v)
  | .absx => .absx (BitVec.ofNat 16 v)
  | .absy => .absy (BitVec.ofNat 16 v)
  | .ind => .ind (BitVec.ofNat 16 v)
  | .indx => .indx (BitVec.ofNat 8 v)
  | .indy => .indy (BitVec.ofNat 8 v)
  | .rel => .rel (BitVec.ofNat 8 v)

/-- The displacement of a branch at `address` to `target`, on the plain integer addresses (R91). -/
def displacement (address target : Nat) : Int := (target : Int) - ((address : Int) + 2)

/-- The displacement lies in −128..127 (R91). -/
def inBranchRange (d : Int) : Bool := -128 ≤ d && d ≤ 127

/-- The operand an instruction at an address emits for a resolved value: a branch's displacement, else
the value's low byte or 16 bits (R90, R91). -/
def emittedOperand (md : Mode) (address v : Nat) : Operand :=
  match md with
  | .rel => .rel (BitVec.ofInt 8 (displacement address (v % 65536)))
  | _ => operandOf md v

/-- What an instruction in a mode emits at an address for a resolved value, with its own diagnostics
(R89 to R91). -/
def emitInstruction (mn : Mnemonic) (md : Mode) (address v : Nat) : List Problem × List Byte :=
  match (Shape.documented mn (emittedOperand md address v)).encode with
  | none => ([.invalidAddressingMode], [])
  | some code =>
    if md = .rel ∧ !inBranchRange (displacement address (v % 65536)) then ([.branchOutOfRange], code)
    else ([], code)

/-- The instruction is `STX addr,Y` with addr above 0xFF, which the assembler rejects as an invalid
addressing mode (R104). DESIGN CHOICE (assumption 18), unsafe: a label bound later is no exception, though
R96 keeps pass 1's zero-page-Y mode for such a line. -/
def isWideStx (labels : Labels) (mn : Mnemonic) (form : Form) : Bool :=
  match mn, form with
  | .stx, .indexedY _ => (formAddress labels form).any fun addr => 0xFF < addr
  | _, _ => false

/-- What a placed line emits in pass 2 at the cursor, against the completed label table (R81). An
instruction keeps the mode of pass 1, so that of a label bound later is not inferred again (R96), and is
rejected where the mnemonic lacks that mode (R89) and where R104 rejects it. -/
def emitLine (labels : Labels) (cursor : Nat) (l : Placed) : List Problem × List Byte :=
  match l.line.statement with
  | .nothing => ([], [])
  | .unknown => ([.unknownMnemonic], [])
  | .org t => ((t.resolve labels).problems, [])
  | .text codes => ([], codes)
  | .bytes ts =>
    let rs := ts.map (Term.resolve labels)
    (rs.flatMap Resolution.problems, rs.map fun r => BitVec.ofNat 8 r.orZero)
  | .instruction mn form =>
    let r := (form.term.map (Term.resolve labels)).getD (.value 0)
    let out :=
      if isWideStx labels mn form then ([.invalidAddressingMode], [])
      else emitInstruction mn l.mode cursor r.orZero
    (r.problems ++ out.1, out.2)

/-- A line with what pass 2 emits for it. -/
structure Emission where
  line : Nat
  /-- The cursor of pass 2 at the line: the address of its first byte. -/
  address : Nat
  problems : List Problem
  bytes : List Byte
  /-- The line binds a label, and pass 1 placed it elsewhere (assumption 11). -/
  misplaced : Bool
  deriving DecidableEq, Repr

/-- Pass 2 for one line; a duplicate label was found in pass 1 (R94). -/
def emission (labels : Labels) (cursor : Nat) (l : Placed) : Emission :=
  let out := emitLine labels cursor l
  { line := l.line.number, address := cursor,
    problems := (if l.duplicate then [.duplicateLabel] else []) ++ out.1, bytes := out.2
    misplaced := l.line.label.isSome && l.address != cursor }

/-- Pass 2: repeats the walk with a cursor of its own, every operand, `.ORG`'s too, resolved against
the completed label table (R81, R83). -/
def pass2 (labels : Labels) (cursor : Nat) : List Placed → List Emission
  | [] => []
  | l :: ls => emission labels cursor l :: pass2 labels (l.advance labels cursor) ls

/-! ## Output (R94, R95) -/

/-- The address of the first byte emitted, or the default origin if there is none (R95). -/
def firstAddress (es : List Emission) : Nat :=
  ((es.find? fun e => !e.bytes.isEmpty).map Emission.address).getD Config.defaultOrigin

/-- The diagnostics of an emission, among them an origin below the start address (R95) and a label on
whose address the passes do not agree: R96 has label addresses agree for every program, so a label
they place apart is diagnosed and its source emits no code. DESIGN CHOICE (assumption 11), unsafe. -/
def Emission.diagnostics (start : Nat) (e : Emission) : List Diagnostic :=
  let below := !e.bytes.isEmpty && e.address < start
  let origin := if e.misplaced || below then [Problem.invalidOrigin] else []
  (e.problems ++ origin).map fun problem => { line := e.line, problem }

/-- An image with bytes stored at an offset: a gap is filled with 0x00, and the later bytes win
(R95). -/
def overlay : List Byte → Nat → List Byte → List Byte
  | image, 0, bytes => bytes ++ image.drop bytes.length
  | [], n + 1, bytes => Config.clearedByte :: overlay [] n bytes
  | b :: image, n + 1, bytes => b :: overlay image n bytes

/-- The image that the emitted bytes make from the start address on (R95). -/
def flatImage (start : Nat) : List Byte → List Emission → List Byte
  | image, [] => image
  | image, e :: es =>
    flatImage start (if e.bytes.isEmpty then image else overlay image (e.address - start) e.bytes) es

/-- The emissions of some lines: pass 1, then pass 2 with the completed label table. Each pass starts
at the default origin (R81, R85). -/
def emissionsOf (lines : List Line) : List Emission :=
  let placed := pass1 [] Config.defaultOrigin lines
  pass2 placed.2 Config.defaultOrigin placed.1

/-- The emissions of a source text. -/
def emissions (source : List Char) : List Emission := emissionsOf (parseSource source)

/-- `assemble(sourceText)` (R80). A diagnostic suppresses the machine code, and only it (R94).
`lineMap` lists each emitting line with its start address, in line order. DESIGN CHOICE (assumption
14), unsafe: where an `.ORG` gives two emitting lines one start address, it keeps both entries, the
earlier line first; R95 does not say which line its map then gives. -/
def assemble (source : List Char) : Output :=
  let es := emissions source
  let start := firstAddress es
  let errors := es.flatMap (Emission.diagnostics start)
  { machineCode := if errors.isEmpty then flatImage start [] es else []
    errors
    startAddress := BitVec.ofNat 16 start
    lineMap := (es.filter fun e => !e.bytes.isEmpty).map fun e => (BitVec.ofNat 16 e.address, e.line) }

end Sys2Proof.Asm
end

