-- ==== Sys2Proof/Machine/HostInterface.lean ====
section
/-!
DEFINITION. The block's interface as transactions (00_scope.md R9; 60_exceptions.md R213): the
calls the host makes between steps, the snapshot, the loader's procedure (70_reset_and_hazards.md
R224), and a run under any schedule of calls (R8).
-/

namespace Sys2Proof.Machine

/-- What the snapshot shows: the six registers, and nothing else (R9, 92_eei_decisions.md D28). -/
structure Snapshot where
  a : Byte
  x : Byte
  y : Byte
  sp : Byte
  pc : Word
  p : Byte
  deriving DecidableEq, Repr

/-- `snapshot()`: a pure read of the register set (R9, R211). -/
def State.snapshot (s : State) : Snapshot where
  a := s.a
  x := s.x
  y := s.y
  sp := s.sp
  pc := s.pc
  p := s.p

/-- The host writes a byte of the buffer between steps, not through the write gate: no console
event (R56, R224). -/
def State.hostWrite (s : State) (a : Word) (v : Byte) : State := s.setMem (s.mem.write a v)

/-- The image the loader leaves: cleared to 0x00, then the reset vector, then the program, which
wins where it overlaps the vector (R224). -/
def loadedImage (code : List Byte) (start : Word) : Memory :=
  let vectors := (Memory.write [] Config.resetVector start.lowByte).write
    (Config.resetVector + 1) start.highByte
  vectors.writeBytes start code

/-- The loader's procedure `load(machineCode, startAddress)`, which ends with `reset()` (R224). -/
def State.load (s : State) (code : List Byte) (start : Word) : State :=
  (s.setMem (loadedImage code start)).resetEngine

/-- A call of the host. It acts only between steps (R56, R210, R213). -/
inductive HostCall where
  /-- `reset()` (R220). -/
  | reset
  /-- `step()` (R221). -/
  | step
  /-- A write to the shared buffer (R56). -/
  | write (a : Word) (v : Byte)
  /-- The loader's procedure (R224). -/
  | load (code : List Byte) (start : Word)
  deriving DecidableEq, Repr

/-- The state after one call of the host. -/
def HostCall.perform (call : HostCall) (s : State) : Result :=
  match call with
  | .reset => .next s.resetEngine
  | .step => Machine.step s
  | .write a v => .next (s.hostWrite a v)
  | .load code start => .next (s.load code start)

/-- A run under a schedule of calls, which is the host's to choose (R8, R229). -/
def runSchedule : List HostCall → State → Result
  | [], s => .next s
  | call :: calls, s =>
    match call.perform s with
    | .next t => runSchedule calls t
    | .fault r => .fault r
    | .refused r => .refused r

end Sys2Proof.Machine
end

