-- ==== Sys2Proof/Safety.lean ====
section
/-!
DEFINITION. The terms the claims are stated in: what a lawful state is, what it is for a state to be
parked, what an instruction changes and what it keeps, and how a mnemonic is encoded.
-/

namespace Sys2Proof.Machine

/-- What holds of the state between steps (10_state.md R33, R34, R41): the memory image is in its
canonical form, Break is 0 in P and Unused is 1. -/
def State.lawful (s : State) : Bool := s.mem.wf && !getFlag s.p .b && getFlag s.p .u

/-- A parked state: the step maps it to itself (70_reset_and_hazards.md R229). The console bytes
are part of the state, so a parked step emits none. -/
def State.parked (s : State) : Prop := step s = .next s

/-- The instruction completes in a next state with a property: it neither faults nor is refused. -/
def Completes (i : Instr) (s : State) (post : State → Prop) : Prop :=
  ∃ t, exec i s = .next t ∧ post t

/-- The 8-bit registers other than P. -/
inductive Reg where
  | a
  | x
  | y
  | sp
  deriving DecidableEq, Repr

/-- The value of a register. -/
def State.reg (s : State) : Reg → Byte
  | .a => s.a
  | .x => s.x
  | .y => s.y
  | .sp => s.sp

/-- Every register but those listed, and every flag but those listed, is as before. -/
def KeepsAllBut (regs : List Reg) (flags : List Flag) (s t : State) : Prop :=
  (∀ r, r ∉ regs → t.reg r = s.reg r) ∧ (∀ f, f ∉ flags → getFlag t.p f = getFlag s.p f)

/-- Every byte of memory reads as before, and no console byte was emitted. -/
def KeepsMemory (s t : State) : Prop :=
  (∀ ea : Word, t.mem.read ea = s.mem.read ea) ∧ t.console = s.console

/-- The byte at `ea` is stored and every other byte of memory reads as before; a store to the
console port emits the byte, and no other store emits anything (20_memory.md R44). -/
def StoresByte (ea : Word) (v : Byte) (s t : State) : Prop :=
  t.mem.read ea = v ∧ (∀ other, other ≠ ea → t.mem.read other = s.mem.read other) ∧
  t.console = (if ea = 0xF001#16 then s.console ++ [v] else s.console)

/-- Zero and Negative are those of the byte (00_scope.md R14): Z is "the byte is 0", N its bit 7. -/
def ZeroNegativeOf (r : Byte) (t : State) : Prop :=
  (getFlag t.p .z = true ↔ r.toNat = 0) ∧ (getFlag t.p .n = true ↔ 128 ≤ r.toNat)

/-- A byte as a signed number: two's complement, 128 and above negative (00_scope.md R10). -/
def signed (b : Byte) : Int := if b.toNat < 128 then b.toNat else (b.toNat : Int) - 256

/-- The mnemonic's instructions are exactly the forms listed, each encoded as the opcode byte listed
for its mode followed by its operand bytes (30_encoding.md R61, R76). -/
def EncodedAs (mn : Mnemonic) (rows : List (Mode × Byte)) : Prop :=
  (∀ i o, i.shape = .documented mn o → ∃ op, (o.mode, op) ∈ rows ∧ encode i = op :: o.bytes) ∧
  (∀ o op, (o.mode, op) ∈ rows → ∃ i, i.shape = .documented mn o ∧ encode i = op :: o.bytes)

/-- The mnemonic of an instruction, if it is a documented one. -/
def mnemonicOf (i : Instr) : Option Mnemonic :=
  match i.shape with
  | .documented mn _ => some mn
  | .unassigned _ => none

/-- The register takes the byte, Z and N come from it, and nothing else changes; PC stands after the
instruction. -/
def LoadsRegister (r : Reg) (v : Byte) (s t : State) : Prop :=
  t.reg r = v ∧ ZeroNegativeOf v t ∧ KeepsAllBut [r] [.z, .n] s t ∧ KeepsMemory s t ∧ t.pc = s.pc

/-- The byte at the address takes the value, and no register and no flag changes; PC stands after
the instruction. -/
def StoresOnly (ea : Word) (v : Byte) (s t : State) : Prop :=
  StoresByte ea v s t ∧ KeepsAllBut [] [] s t ∧ t.pc = s.pc

/-- The flags of a compare of `r` with `m`: C is "r ≥ m" unsigned, Z and N come from r − m, and
nothing else changes (41_arithmetic_logic.md R123). -/
def ComparesTo (r m : Byte) (s t : State) : Prop :=
  (getFlag t.p .c = true ↔ m.toNat ≤ r.toNat) ∧ ZeroNegativeOf (r - m) t ∧
  KeepsAllBut [] [.c, .z, .n] s t ∧ KeepsMemory s t ∧ t.pc = s.pc

/-- What each shift or rotate makes of a byte `v` and the old carry `c`: the result `r` and the bit
shifted out (42_shift_rotate.md R141 to R144). -/
def ShiftsTo (mn : Mnemonic) (v : Byte) (c : Bool) (r : Byte) (out : Bool) : Prop :=
  (mn = .asl ∧ r.toNat = 2 * v.toNat % 256 ∧ (out = true ↔ 128 ≤ v.toNat)) ∨
  (mn = .lsr ∧ r.toNat = v.toNat / 2 ∧ (out = true ↔ v.toNat % 2 = 1)) ∨
  (mn = .rol ∧ r.toNat = (2 * v.toNat + c.toNat) % 256 ∧ (out = true ↔ 128 ≤ v.toNat)) ∨
  (mn = .ror ∧ r.toNat = v.toNat / 2 + 128 * c.toNat ∧ (out = true ↔ v.toNat % 2 = 1))

/-- The eight branches: opcode, the flag each tests and the value it branches on
(43_control_transfer.md R151 to R158). -/
def branchConditions : List (Mnemonic × Byte × Flag × Bool) := [
  (.bcc, 0x90, .c, false), (.bcs, 0xB0, .c, true), (.beq, 0xF0, .z, true), (.bne, 0xD0, .z, false),
  (.bmi, 0x30, .n, true), (.bpl, 0x10, .n, false), (.bvc, 0x50, .v, false), (.bvs, 0x70, .v, true)]

/-- The seven flag instructions: opcode, the flag each writes and the value it writes
(44_stack_flags_system.md R174 to R180). -/
def flagInstructions : List (Mnemonic × Byte × Flag × Bool) := [
  (.clc, 0x18, .c, false), (.sec, 0x38, .c, true), (.cli, 0x58, .i, false), (.sei, 0x78, .i, true),
  (.clv, 0xB8, .v, false), (.cld, 0xD8, .d, false), (.sed, 0xF8, .d, true)]

/-- The instructions that write each flag of P (10_state.md R29 to R36). PLP and RTI write Break and
Unused too, with the values these always have between steps. -/
def flagWriters : Flag → List Mnemonic
  | .c => [.adc, .sbc, .cmp, .cpx, .cpy, .asl, .lsr, .rol, .ror, .clc, .sec, .plp, .rti]
  | .z | .n => [.lda, .ldx, .ldy, .tax, .tay, .txa, .tya, .tsx, .pla, .adc, .sbc, .and, .ora, .eor,
      .cmp, .cpx, .cpy, .inc, .dec, .inx, .iny, .dex, .dey, .asl, .lsr, .rol, .ror, .bit, .plp, .rti]
  | .i => [.sei, .cli, .brk, .plp, .rti]
  | .d => [.sed, .cld, .plp, .rti]
  | .v => [.adc, .sbc, .bit, .clv, .plp, .rti]
  | .b | .u => [.plp, .rti]

/-- The instructions that write each register (10_state.md R22, R23, R24, R27). -/
def registerWriters : Reg → List Mnemonic
  | .a => [.lda, .txa, .tya, .pla, .adc, .sbc, .and, .ora, .eor, .asl, .lsr, .rol, .ror]
  | .x => [.ldx, .tax, .tsx, .inx, .dex]
  | .y => [.ldy, .tay, .iny, .dey]
  | .sp => [.txs, .pha, .php, .pla, .plp, .jsr, .rts, .brk, .rti]

/-- The instructions that write memory, but for a shift or rotate of A (30_encoding.md R75,
20_memory.md R49). -/
def memoryWriters : List Mnemonic :=
  [.sta, .stx, .sty, .asl, .lsr, .rol, .ror, .inc, .dec, .pha, .php, .jsr, .brk]

/-- Pushes bytes in order. -/
def pushAll : List Byte → State → State
  | [], s => s
  | v :: vs, s => pushAll vs (s.push8 v)

/-- Pulls a number of bytes, in the order they come off the stack. -/
def pullMany : Nat → State → List Byte × State
  | 0, s => ([], s)
  | n + 1, s =>
    let v := s.pull8
    let rest := pullMany n v.2
    (v.1 :: rest.1, rest.2)

end Sys2Proof.Machine

namespace Sys2Proof.Asm

/-- The label that a line's `.ORG` names, if it names one. -/
def Line.originLabel (line : Line) : Option (List Char) :=
  match line.statement with
  | .org (.name ident) => some ident
  | _ => none

/-- No `.ORG` names a label that a later line binds (30_encoding.md R99, item 1: no forward
reference). -/
abbrev NoForwardOrigin (lines : List Line) : Prop :=
  lines.Pairwise fun line later => line.originLabel = none ∨ later.label ≠ line.originLabel

end Sys2Proof.Asm
end

