-- ==== Sys2Proof/Certificates/Slice0/Obligations.lean ====
section
/-!
DEFINITION. The statements for the provers, one `def Obligations.<Name> : Prop` each. They stand in
the order of the spec's files: encoding, the step, state and memory, addressing modes, the
instructions, the machine as a whole, the host's interface and the assembler. In a statement about
`exec`, PC has already passed the instruction's bytes (10_state.md R25); the statement
`StepRunsDecodedInstruction` says how the step brings it there.
-/

open Sys2Proof Sys2Proof.Machine

/-! ## Encoding -/

/-- Decoding an encoded instruction gives it back, with every operand, whatever bytes follow
(30_encoding.md R61 to R63). -/
def Obligations.DecodeOfEncode : Prop :=
  ∀ (i : Instr) (rest : List Byte), decode (encode i ++ rest) = .ok (i, rest)

/-- Bytes that decode are the encoding of the instruction read, then the rest: each byte string has
one meaning and no operand bit is dropped (R62, R63). -/
def Obligations.EncodeOfDecode : Prop :=
  ∀ (bytes : List Byte) (i : Instr) (rest : List Byte),
    decode bytes = .ok (i, rest) → bytes = encode i ++ rest

/-- R78: every entry of the Instruction Set Table decodes to its own operation and mode, and NOP has
an entry of its own whose effect is that of an unassigned byte (90_conflicts.md C3). -/
def Obligations.TableAndDecoderAgree : Prop :=
  (∀ (mn : Mnemonic) (md : Mode) (op : Byte), mn.opcode md = some op →
    ∀ b1 b2, ∃ o, (decodeOp op b1 b2).shape = .documented mn o ∧ o.mode = md) ∧
  (∀ b1 b2, (decodeOp 0xEA b1 b2).shape = .documented .nop .imp) ∧
  (∀ (i : Instr) (b0 : Byte), i.shape = .unassigned b0 → ∀ s, exec .nop s = exec i s)

/-- R62, R63: every byte value selects exactly one entry, which is either a documented operation,
with an operand made of the bytes after the opcode, or one of the 105 unassigned bytes. -/
def Obligations.DecoderIsTotal : Prop :=
  unassignedOpcodes.length = 105 ∧ unassignedOpcodes.Nodup ∧ ∀ b0 b1 b2 : Byte,
    (b0 ∈ unassignedOpcodes ∧ (decodeOp b0 b1 b2).shape = .unassigned b0) ∨
    (b0 ∉ unassignedOpcodes ∧ ∃ mn o, (decodeOp b0 b1 b2).shape = .documented mn o ∧
      mn.opcode o.mode = some b0 ∧ o.bytes = [b1, b2].take (o.mode.length - 1))

/-- R60: the opcode alone fixes the addressing mode, and the mode alone fixes the length, which is 1,
2 or 3; an unassigned opcode has length 1. The first byte of the encoding is the opcode. -/
def Obligations.OpcodeFixesLength : Prop :=
  ∀ b0 : Byte, ∃ n, (n = 1 ∨ n = 2 ∨ n = 3) ∧ ∀ b1 b2 : Byte,
    (decodeOp b0 b1 b2).length = n ∧ (encode (decodeOp b0 b1 b2)).length = n ∧
    (encode (decodeOp b0 b1 b2)).head? = some b0 ∧
    (∀ b, (decodeOp b0 b1 b2).shape = .unassigned b → n = 1) ∧
    ∀ mn o, (decodeOp b0 b1 b2).shape = .documented mn o → n = o.mode.length ∧
      ∀ c1 c2, ∃ o', (decodeOp b0 c1 c2).shape = .documented mn o' ∧ o'.mode = o.mode

/-- Words written out from the spec's encodings decode to the instruction they stand for: R97's
examples `LDA #$05`, `LDA ($10),Y`, `JMP ($1234)`, `ASL A` and `LDX $10,Y`, R163's `4C 00 80`, R151's
`90 05`, BRK's single byte (R79), and an unassigned byte (R77). -/
def Obligations.WrittenWordsDecode : Prop :=
  decode [0xA9, 0x05] = .ok (.ldaImm 0x05, []) ∧
  decode [0xB1, 0x10] = .ok (.ldaIndy 0x10, []) ∧
  decode [0x6C, 0x34, 0x12] = .ok (.jmpInd 0x1234, []) ∧
  decode [0x0A] = .ok (.aslAcc, []) ∧
  decode [0xB6, 0x10] = .ok (.ldxZpy 0x10, []) ∧
  decode [0x4C, 0x00, 0x80] = .ok (.jmpAbs 0x8000, []) ∧
  decode [0x90, 0x05] = .ok (.bcc 0x05, []) ∧
  decode [0x00, 0xEA] = .ok (.brk, [0xEA]) ∧
  decode [0x80, 0xA9, 0x05] = .ok (.unassigned80, [0xA9, 0x05])

/-! ## The step -/

/-- R221, R228: the step is one instruction. When the bytes at PC, read through the read gate, decode
to an instruction, the step runs its operation in the state whose PC has passed the instruction's
bytes. -/
def Obligations.StepRunsDecodedInstruction : Prop :=
  ∀ (s : State) (i : Instr) (rest : List Byte),
    decode [s.codeByte 0, s.codeByte 1, s.codeByte 2] = .ok (i, rest) →
      step s = exec i (s.setPc (s.pc + BitVec.ofNat 16 i.length))

/-- R222: "the step is total: there is no state from which it cannot step and no refusal". The
spec marks it as derived. -/
def Obligations.StepIsTotal : Prop := ∀ s : State, ∃ t, step s = .next t

/-- Whatever the program does, the memory image stays in its canonical form (the model's own, no rule
of the spec), Break stays 0 in P (R33, whose "always 0 in P" the spec marks as derived) and Unused
stays 1 (R34). -/
def Obligations.StepKeepsLawful : Prop :=
  ∀ s t : State, s.lawful = true → step s = .next t → t.lawful = true

/-- The state right after reset, with the memory image cleared (assumption 1), is lawful (R39). -/
def Obligations.ResetIsLawful : Prop := State.reset.lawful = true

/-- An instruction stored where the next step fetches is the one that step runs. How a program comes
to stand there is the model's choice (assumption 4). -/
def Obligations.StoredWordRunsNext : Prop :=
  ∀ (s : State) (nbits w : Nat) (i : Instr), decodeTableWord nbits w = some i →
    step (s.withFetchWord nbits w) =
      exec i ((s.withFetchWord nbits w).setPc
        ((s.withFetchWord nbits w).pc + BitVec.ofNat 16 i.length))

/-! ## Reset, memory and the stack -/

/-- R39: the state after `reset()`. Memory and the console are unchanged. -/
def Obligations.ResetState : Prop :=
  ∀ s : State, s.resetEngine =
    { a := 0x00#8, x := 0x00#8, y := 0x00#8, sp := 0xFD#8, p := 0x24#8,
      pc := Word.ofBytes (s.readByte 0xFFFD#16) (s.readByte 0xFFFC#16),
      mem := s.mem, console := s.console }

/-- R43: the read gate answers 0x00 at 0xF001 and the stored byte at every other address; so an
opcode fetched from 0xF001 is BRK, which the spec marks as derived. -/
def Obligations.ReadGate : Prop :=
  (∀ (s : State) (a : Word), s.readByte a = if a = 0xF001#16 then 0x00#8 else s.mem.read a) ∧
  (∀ s : State, s.pc = 0xF001#16 → step s = exec .brk (s.setPc 0xF002#16))

/-- R44: the write gate stores the byte at every address, and a write to 0xF001 emits exactly one
console event with it. No register changes. -/
def Obligations.WriteGate : Prop :=
  ∀ (s : State) (a : Word) (v : Byte),
    StoresByte a v s (s.writeByte a v) ∧ KeepsAllBut [] [] s (s.writeByte a v) ∧
    (s.writeByte a v).pc = s.pc

/-- R58, R43: a byte stored at an address of the code is what the fetch of that address reads next;
a byte stored at the console port is never fetched. The spec marks R58 as derived. -/
def Obligations.FetchSeesStores : Prop :=
  ∀ (s : State) (a : Word) (v : Byte) (k : Nat),
    (s.writeByte a v).codeByte k =
      if s.pc + BitVec.ofNat 16 k = a ∧ a ≠ 0xF001#16 then v else s.codeByte k

/-- R13: the stack primitives. A push writes at 0x0100 + SP and decrements SP; a pull increments SP
and reads there; both wrap within 8 bits; a 16-bit push writes the high byte first, and a 16-bit
pull takes the low byte first. Nothing else changes, PC included. -/
def Obligations.StackPrimitives : Prop :=
  (∀ sp : Byte, (stackAddress sp).toNat = 0x0100 + sp.toNat) ∧
  (∀ (s : State) (v : Byte), (s.push8 v).sp.toNat = (s.sp.toNat + 255) % 256 ∧
    StoresByte (stackAddress s.sp) v s (s.push8 v) ∧ KeepsAllBut [.sp] [] s (s.push8 v) ∧
    (s.push8 v).pc = s.pc) ∧
  (∀ s : State, s.pull8.2.sp.toNat = (s.sp.toNat + 1) % 256 ∧
    s.pull8.1 = s.readByte (stackAddress s.pull8.2.sp) ∧ KeepsAllBut [.sp] [] s s.pull8.2 ∧
    KeepsMemory s s.pull8.2 ∧ s.pull8.2.pc = s.pc) ∧
  (∀ (s : State) (w : Word), s.push16 w = (s.push8 (w.extractLsb' 8 8)).push8 (w.extractLsb' 0 8)) ∧
  (∀ s : State, s.pull16.1.toNat = s.pull8.1.toNat + 256 * s.pull8.2.pull8.1.toNat ∧
    s.pull16.2 = s.pull8.2.pull8.2)

/-- 95_test_vectors.md V1.6: pushing at most 256 bytes and then pulling as many gives them back in
reverse order, with SP restored, wherever SP stood. -/
def Obligations.PushesThenPullsReverse : Prop :=
  ∀ (vs : List Byte) (s : State), vs.length ≤ 256 →
    (pullMany vs.length (pushAll vs s)).1 = vs.reverse ∧
    (pullMany vs.length (pushAll vs s)).2.sp = s.sp

/-! ## Addressing modes -/

/-- R66, R67: zero-page addresses lie in page 0, and the indexed sums wrap within it. -/
def Obligations.ZeroPageAddresses : Prop :=
  ∀ (z : Byte) (s : State),
    (∃ ea, operandAddress (.zp z) s = some ea ∧ ea.toNat = z.toNat) ∧
    (∃ ea, operandAddress (.zpx z) s = some ea ∧ ea.toNat = (z.toNat + s.x.toNat) % 256) ∧
    (∃ ea, operandAddress (.zpy z) s = some ea ∧ ea.toNat = (z.toNat + s.y.toNat) % 256)

/-- R68, R69: the absolute address, and the indexed sums modulo 65536, a wrap the spec marks as
derived from R45. -/
def Obligations.AbsoluteAddresses : Prop :=
  ∀ (a : Word) (s : State),
    operandAddress (.abs a) s = some a ∧
    (∃ ea, operandAddress (.absx a) s = some ea ∧ ea.toNat = (a.toNat + s.x.toNat) % 65536) ∧
    (∃ ea, operandAddress (.absy a) s = some ea ∧ ea.toNat = (a.toNat + s.y.toNat) % 65536)

/-- R71, R72: the zero-page pointers. Both bytes of a pointer lie in page 0; `(zp,X)` indexes the
pointer's address, `(zp),Y` the address it holds. -/
def Obligations.PointerAddresses : Prop :=
  ∀ (z : Byte) (s : State),
    (∃ ea, operandAddress (.indx z) s = some ea ∧
      ea.toNat = (s.readByte (BitVec.ofNat 16 ((z.toNat + s.x.toNat) % 256))).toNat +
        256 * (s.readByte (BitVec.ofNat 16 ((z.toNat + s.x.toNat + 1) % 256))).toNat) ∧
    (∃ ea, operandAddress (.indy z) s = some ea ∧
      ea.toNat = ((s.readByte (BitVec.ofNat 16 z.toNat)).toNat +
        256 * (s.readByte (BitVec.ofNat 16 ((z.toNat + 1) % 256))).toNat + s.y.toNat) % 65536)

/-- R75: the operand byte of the read class is the immediate byte, A in accumulator mode, or the
byte the read gate answers at the effective address. The spec marks R75 as derived. -/
def Obligations.OperandBytes : Prop :=
  ∀ s : State, (∀ v, operandByte (.imm v) s = some v) ∧ operandByte .acc s = some s.a ∧
    ∀ (o : Operand) (ea : Word), operandAddress o s = some ea →
      operandByte o s = some (s.readByte ea)

/-! ## Loads, stores and transfers -/

/-- R100 to R102: a load puts the operand byte into its register and sets Z and N from it. -/
def Obligations.LoadResults : Prop :=
  EncodedAs .lda [(.imm, 0xA9), (.zp, 0xA5), (.zpx, 0xB5), (.abs, 0xAD), (.absx, 0xBD),
    (.absy, 0xB9), (.indx, 0xA1), (.indy, 0xB1)] ∧
  EncodedAs .ldx [(.imm, 0xA2), (.zp, 0xA6), (.zpy, 0xB6), (.abs, 0xAE), (.absy, 0xBE)] ∧
  EncodedAs .ldy [(.imm, 0xA0), (.zp, 0xA4), (.zpx, 0xB4), (.abs, 0xAC), (.absx, 0xBC)] ∧
  ∀ (mn : Mnemonic) (r : Reg), (mn, r) ∈ [(.lda, .a), (.ldx, .x), (.ldy, .y)] →
    ∀ (i : Instr) (o : Operand) (s : State), i.shape = .documented mn o →
      ∃ m, operandByte o s = some m ∧ Completes i s (LoadsRegister r m s)

/-- R103 to R105: a store writes its register at the effective address and nothing else; at the
console port it emits the byte. -/
def Obligations.StoreResults : Prop :=
  EncodedAs .sta [(.zp, 0x85), (.zpx, 0x95), (.abs, 0x8D), (.absx, 0x9D), (.absy, 0x99),
    (.indx, 0x81), (.indy, 0x91)] ∧
  EncodedAs .stx [(.zp, 0x86), (.zpy, 0x96), (.abs, 0x8E)] ∧
  EncodedAs .sty [(.zp, 0x84), (.zpx, 0x94), (.abs, 0x8C)] ∧
  ∀ (mn : Mnemonic) (r : Reg), (mn, r) ∈ [(.sta, .a), (.stx, .x), (.sty, .y)] →
    ∀ (i : Instr) (o : Operand) (s : State), i.shape = .documented mn o →
      ∃ ea, operandAddress o s = some ea ∧ Completes i s (StoresOnly ea (s.reg r) s)

/-- R106 to R111: the six register transfers. TXS is the one that writes no flag. -/
def Obligations.TransferResults : Prop :=
  EncodedAs .tax [(.imp, 0xAA)] ∧ EncodedAs .tay [(.imp, 0xA8)] ∧ EncodedAs .txa [(.imp, 0x8A)] ∧
  EncodedAs .tya [(.imp, 0x98)] ∧ EncodedAs .tsx [(.imp, 0xBA)] ∧ EncodedAs .txs [(.imp, 0x9A)] ∧
  ∀ s : State,
    Completes .tax s (LoadsRegister .x s.a s) ∧ Completes .tay s (LoadsRegister .y s.a s) ∧
    Completes .txa s (LoadsRegister .a s.x s) ∧ Completes .tya s (LoadsRegister .a s.y s) ∧
    Completes .tsx s (LoadsRegister .x s.sp s) ∧
    Completes .txs s fun t =>
      t.sp = s.x ∧ KeepsAllBut [.sp] [] s t ∧ KeepsMemory s t ∧ t.pc = s.pc

/-! ## Arithmetic, compares and logic -/

/-- R120: the adder. C is the carry out of the unsigned sum; V is 1 exactly when both operands have
one sign bit and the result has the other, which is signed overflow; D plays no part. -/
def Obligations.AdderRule : Prop :=
  ∀ a m p : Byte,
    let c := (getFlag p .c).toNat
    let r := (addWithCarry a m p).1
    let q := (addWithCarry a m p).2
    r.toNat = (a.toNat + m.toNat + c) % 256 ∧
    (getFlag q .c = true ↔ 255 < a.toNat + m.toNat + c) ∧
    (getFlag q .v = true ↔ a.msb = m.msb ∧ r.msb ≠ a.msb) ∧
    (getFlag q .v = true ↔ signed a + signed m + c < -128 ∨ 127 < signed a + signed m + c) ∧
    (getFlag q .z = true ↔ r.toNat = 0) ∧ (getFlag q .n = true ↔ 128 ≤ r.toNat) ∧
    ∀ f, f ∉ [Flag.c, .v, .z, .n] → getFlag q f = getFlag p f

/-- R121: ADC adds the operand byte and the carry to A, modulo 256, with C the unsigned carry out
and V the signed overflow, whatever D holds. -/
def Obligations.AdcResult : Prop :=
  EncodedAs .adc [(.imm, 0x69), (.zp, 0x65), (.zpx, 0x75), (.abs, 0x6D), (.absx, 0x7D),
    (.absy, 0x79), (.indx, 0x61), (.indy, 0x71)] ∧
  ∀ (i : Instr) (o : Operand) (s : State), i.shape = .documented .adc o →
    ∃ m, operandByte o s = some m ∧ Completes i s fun t =>
      let c := (getFlag s.p .c).toNat
      t.a.toNat = (s.a.toNat + m.toNat + c) % 256 ∧
      (getFlag t.p .c = true ↔ 255 < s.a.toNat + m.toNat + c) ∧
      (getFlag t.p .v = true ↔
        signed s.a + signed m + c < -128 ∨ 127 < signed s.a + signed m + c) ∧
      ZeroNegativeOf t.a t ∧ KeepsAllBut [.a] [.c, .v, .z, .n] s t ∧ KeepsMemory s t ∧ t.pc = s.pc

/-- R122: SBC is the adder with the operand complemented. It subtracts the operand byte and the
borrow 1 − C from A; C after it is "no borrow", and V is the signed overflow of the difference. The
spec marks the reading as a borrow as derived. -/
def Obligations.SbcResult : Prop :=
  EncodedAs .sbc [(.imm, 0xE9), (.zp, 0xE5), (.zpx, 0xF5), (.abs, 0xED), (.absx, 0xFD),
    (.absy, 0xF9), (.indx, 0xE1), (.indy, 0xF1)] ∧
  ∀ (i : Instr) (o : Operand) (s : State), i.shape = .documented .sbc o →
    ∃ m, operandByte o s = some m ∧ Completes i s fun t =>
      let borrow := 1 - (getFlag s.p .c).toNat
      (t.a, t.p) = addWithCarry s.a (m ^^^ 0xFF#8) s.p ∧
      (t.a.toNat : Int) = ((s.a.toNat : Int) - m.toNat - borrow) % 256 ∧
      (getFlag t.p .c = true ↔ m.toNat + borrow ≤ s.a.toNat) ∧
      (getFlag t.p .v = true ↔
        signed s.a - signed m - borrow < -128 ∨ 127 < signed s.a - signed m - borrow) ∧
      ZeroNegativeOf t.a t ∧ KeepsAllBut [.a] [.c, .v, .z, .n] s t ∧ KeepsMemory s t ∧ t.pc = s.pc

/-- R123 to R126: a compare sets C to "register ≥ operand" unsigned, Z and N from the difference,
and changes nothing else, V included. -/
def Obligations.CompareResults : Prop :=
  EncodedAs .cmp [(.imm, 0xC9), (.zp, 0xC5), (.zpx, 0xD5), (.abs, 0xCD), (.absx, 0xDD),
    (.absy, 0xD9), (.indx, 0xC1), (.indy, 0xD1)] ∧
  EncodedAs .cpx [(.imm, 0xE0), (.zp, 0xE4), (.abs, 0xEC)] ∧
  EncodedAs .cpy [(.imm, 0xC0), (.zp, 0xC4), (.abs, 0xCC)] ∧
  ∀ (mn : Mnemonic) (r : Reg), (mn, r) ∈ [(.cmp, .a), (.cpx, .x), (.cpy, .y)] →
    ∀ (i : Instr) (o : Operand) (s : State), i.shape = .documented mn o →
      ∃ m, operandByte o s = some m ∧ Completes i s (ComparesTo (s.reg r) m s)

/-- R127 to R129: AND, ORA and EOR put the bitwise result into A and set Z and N from it. -/
def Obligations.LogicResults : Prop :=
  EncodedAs .and [(.imm, 0x29), (.zp, 0x25), (.zpx, 0x35), (.abs, 0x2D), (.absx, 0x3D),
    (.absy, 0x39), (.indx, 0x21), (.indy, 0x31)] ∧
  EncodedAs .ora [(.imm, 0x09), (.zp, 0x05), (.zpx, 0x15), (.abs, 0x0D), (.absx, 0x1D),
    (.absy, 0x19), (.indx, 0x01), (.indy, 0x11)] ∧
  EncodedAs .eor [(.imm, 0x49), (.zp, 0x45), (.zpx, 0x55), (.abs, 0x4D), (.absx, 0x5D),
    (.absy, 0x59), (.indx, 0x41), (.indy, 0x51)] ∧
  ∀ (i : Instr) (o : Operand) (s : State),
    (i.shape = .documented .and o →
      ∃ m, operandByte o s = some m ∧ Completes i s (LoadsRegister .a (s.a &&& m) s)) ∧
    (i.shape = .documented .ora o →
      ∃ m, operandByte o s = some m ∧ Completes i s (LoadsRegister .a (s.a ||| m) s)) ∧
    (i.shape = .documented .eor o →
      ∃ m, operandByte o s = some m ∧ Completes i s (LoadsRegister .a (s.a ^^^ m) s))

/-- R130: BIT sets Z from A & M and copies bits 7 and 6 of the operand to N and V. -/
def Obligations.BitResult : Prop :=
  EncodedAs .bit [(.zp, 0x24), (.abs, 0x2C)] ∧
  ∀ (i : Instr) (o : Operand) (s : State), i.shape = .documented .bit o →
    ∃ m, operandByte o s = some m ∧ Completes i s fun t =>
      (getFlag t.p .z = true ↔ s.a &&& m = 0#8) ∧ getFlag t.p .n = m.getLsbD 7 ∧
      getFlag t.p .v = m.getLsbD 6 ∧ KeepsAllBut [] [.z, .n, .v] s t ∧ KeepsMemory s t ∧
      t.pc = s.pc

/-- R131, R132: INC and DEC write the byte read at the effective address plus or minus 1, modulo
256, back to it, and set Z and N from the result; C and V are kept. At the console port the byte
read is 0x00 and one console event is emitted (20_memory.md R50). -/
def Obligations.IncDecMemoryResults : Prop :=
  EncodedAs .inc [(.zp, 0xE6), (.zpx, 0xF6), (.abs, 0xEE), (.absx, 0xFE)] ∧
  EncodedAs .dec [(.zp, 0xC6), (.zpx, 0xD6), (.abs, 0xCE), (.absx, 0xDE)] ∧
  ∀ (mn : Mnemonic) (d : Nat), (mn, d) ∈ [(.inc, 1), (.dec, 255)] →
    ∀ (i : Instr) (o : Operand) (s : State), i.shape = .documented mn o →
      ∃ ea r, operandAddress o s = some ea ∧ r = BitVec.ofNat 8 ((s.readByte ea).toNat + d) ∧
        Completes i s fun t => StoresByte ea r s t ∧ ZeroNegativeOf r t ∧
          KeepsAllBut [] [.z, .n] s t ∧ t.pc = s.pc

/-- R133 to R136: INX, INY, DEX and DEY count an index register up or down modulo 256 and set Z and
N; C and V are kept. -/
def Obligations.IndexCountResults : Prop :=
  EncodedAs .inx [(.imp, 0xE8)] ∧ EncodedAs .iny [(.imp, 0xC8)] ∧
  EncodedAs .dex [(.imp, 0xCA)] ∧ EncodedAs .dey [(.imp, 0x88)] ∧
  ∀ s : State,
    Completes .inx s (LoadsRegister .x (BitVec.ofNat 8 (s.x.toNat + 1)) s) ∧
    Completes .iny s (LoadsRegister .y (BitVec.ofNat 8 (s.y.toNat + 1)) s) ∧
    Completes .dex s (LoadsRegister .x (BitVec.ofNat 8 (s.x.toNat + 255)) s) ∧
    Completes .dey s (LoadsRegister .y (BitVec.ofNat 8 (s.y.toNat + 255)) s)

/-! ## Shifts and rotates -/

/-- R140 to R144: a shift or rotate replaces A, or the byte at the effective address, by the shifted
byte; C is the bit shifted out, Z and N come from the result, and I, D and V are kept. -/
def Obligations.ShiftResults : Prop :=
  EncodedAs .asl [(.acc, 0x0A), (.zp, 0x06), (.zpx, 0x16), (.abs, 0x0E), (.absx, 0x1E)] ∧
  EncodedAs .lsr [(.acc, 0x4A), (.zp, 0x46), (.zpx, 0x56), (.abs, 0x4E), (.absx, 0x5E)] ∧
  EncodedAs .rol [(.acc, 0x2A), (.zp, 0x26), (.zpx, 0x36), (.abs, 0x2E), (.absx, 0x3E)] ∧
  EncodedAs .ror [(.acc, 0x6A), (.zp, 0x66), (.zpx, 0x76), (.abs, 0x6E), (.absx, 0x7E)] ∧
  ∀ (mn : Mnemonic) (i : Instr) (o : Operand) (s : State),
    mn ∈ [.asl, .lsr, .rol, .ror] → i.shape = .documented mn o →
      ∃ v r out, operandByte o s = some v ∧ ShiftsTo mn v (getFlag s.p .c) r out ∧
        Completes i s fun t =>
          getFlag t.p .c = out ∧ ZeroNegativeOf r t ∧ t.pc = s.pc ∧
          (o = .acc → t.a = r ∧ KeepsAllBut [.a] [.c, .z, .n] s t ∧ KeepsMemory s t) ∧
          (o ≠ .acc → ∃ ea, operandAddress o s = some ea ∧ StoresByte ea r s t ∧
            KeepsAllBut [] [.c, .z, .n] s t)

/-! ## Control transfer -/

/-- R150 to R158: a branch adds its signed displacement to the address after it, modulo 65536,
exactly when its flag has the value it tests, and otherwise continues there; the displacement byte
is consumed either way, and nothing but PC changes. -/
def Obligations.BranchResults : Prop :=
  ∀ (mn : Mnemonic) (op : Byte) (f : Flag) (v : Bool), (mn, op, f, v) ∈ branchConditions →
    EncodedAs mn [(.rel, op)] ∧
    ∀ (i : Instr) (o : Operand) (s : State), i.shape = .documented mn o → ∃ d, o = .rel d ∧
      (Completes i s fun t =>
        (getFlag s.p f = v → (t.pc.toNat : Int) = ((s.pc.toNat : Int) + signed d) % 65536) ∧
        (getFlag s.p f ≠ v → t.pc = s.pc) ∧ KeepsAllBut [] [] s t ∧ KeepsMemory s t) ∧
      (s.fetch = i → ∃ t, step s = .next t ∧ (t.pc.toNat : Int) =
        ((s.pc.toNat : Int) + 2 + if getFlag s.p f = v then signed d else 0) % 65536)

/-- R70, R159: JMP takes PC from its operand, or from the pointer its operand names, whose high byte
comes from the next address modulo 65536; nothing else changes. -/
def Obligations.JumpResults : Prop :=
  EncodedAs .jmp [(.abs, 0x4C), (.ind, 0x6C)] ∧
  ∀ (s : State) (a ptr : Word),
    (Completes (.jmpAbs a) s fun t =>
      t.pc = a ∧ KeepsAllBut [] [] s t ∧ KeepsMemory s t) ∧
    (Completes (.jmpInd ptr) s fun t =>
      t.pc.toNat = (s.readByte ptr).toNat +
        256 * (s.readByte (BitVec.ofNat 16 ((ptr.toNat + 1) % 65536))).toNat ∧
      KeepsAllBut [] [] s t ∧ KeepsMemory s t)

/-- R160: JSR pushes PC − 1, high byte first, and jumps to its operand. -/
def Obligations.JsrResult : Prop :=
  EncodedAs .jsr [(.abs, 0x20)] ∧
  ∀ (s : State) (a : Word), Completes (.jsr a) s fun t =>
    t.pc = a ∧ t.sp = s.sp - 2#8 ∧
    t.mem.read (stackAddress s.sp) = (s.pc - 1#16).extractLsb' 8 8 ∧
    t.mem.read (stackAddress (s.sp - 1#8)) = (s.pc - 1#16).extractLsb' 0 8 ∧
    (∀ ea, ea ≠ stackAddress s.sp → ea ≠ stackAddress (s.sp - 1#8) →
      t.mem.read ea = s.mem.read ea) ∧
    t.console = s.console ∧ KeepsAllBut [.sp] [] s t

/-- R161: RTS pulls a 16-bit address, low byte first, and continues at the one after it. -/
def Obligations.RtsResult : Prop :=
  EncodedAs .rts [(.imp, 0x60)] ∧
  ∀ s : State, Completes .rts s fun t =>
    t.pc.toNat = ((s.readByte (stackAddress (s.sp + 1#8))).toNat +
      256 * (s.readByte (stackAddress (s.sp + 2#8))).toNat + 1) % 65536 ∧
    t.sp = s.sp + 2#8 ∧ KeepsAllBut [.sp] [] s t ∧ KeepsMemory s t

/-- R160, R161: a subroutine that leaves SP where JSR left it and the two bytes JSR pushed as they
are returns, by RTS, to the address after the JSR, with SP restored. It follows from the two rules. -/
def Obligations.CallThenReturn : Prop :=
  ∀ (s : State) (a : Word), Completes (.jsr a) s fun t =>
    ∀ u : State, u.sp = t.sp →
      u.mem.read (stackAddress s.sp) = t.mem.read (stackAddress s.sp) →
      u.mem.read (stackAddress (s.sp - 1#8)) = t.mem.read (stackAddress (s.sp - 1#8)) →
      Completes .rts u fun w => w.pc = s.pc ∧ w.sp = s.sp

/-! ## Stack, flags and system -/

/-- R170, R171: PHA pushes A, and PHP pushes P with Break and Unused 1; P keeps its value. -/
def Obligations.PushResults : Prop :=
  EncodedAs .pha [(.imp, 0x48)] ∧ EncodedAs .php [(.imp, 0x08)] ∧
  ∀ (s : State) (i : Instr) (v : Byte), (i, v) ∈ [(.pha, s.a), (.php, s.p ||| 0x30#8)] →
    Completes i s fun t => StoresByte (stackAddress s.sp) v s t ∧ t.sp = s.sp - 1#8 ∧
      KeepsAllBut [.sp] [] s t ∧ t.pc = s.pc

/-- R172, R173: PLA pulls A and sets Z and N from it; PLP pulls P, Break cleared and Unused set. -/
def Obligations.PullResults : Prop :=
  EncodedAs .pla [(.imp, 0x68)] ∧ EncodedAs .plp [(.imp, 0x28)] ∧
  ∀ s : State,
    (Completes .pla s fun t => t.a = s.readByte (stackAddress (s.sp + 1#8)) ∧
      ZeroNegativeOf t.a t ∧ t.sp = s.sp + 1#8 ∧ KeepsAllBut [.a, .sp] [.z, .n] s t ∧
      KeepsMemory s t ∧ t.pc = s.pc) ∧
    (Completes .plp s fun t =>
      t.p = (s.readByte (stackAddress (s.sp + 1#8)) &&& 0xEF#8) ||| 0x20#8 ∧
      t.sp = s.sp + 1#8 ∧ KeepsAllBut [.sp] [.c, .z, .i, .d, .b, .u, .v, .n] s t ∧
      KeepsMemory s t ∧ t.pc = s.pc)

/-- R174 to R180: each flag instruction writes its one flag and nothing else. -/
def Obligations.FlagInstructionResults : Prop :=
  ∀ (mn : Mnemonic) (op : Byte) (f : Flag) (v : Bool), (mn, op, f, v) ∈ flagInstructions →
    EncodedAs mn [(.imp, op)] ∧
    ∀ (i : Instr) (o : Operand) (s : State), i.shape = .documented mn o →
      Completes i s fun t =>
        getFlag t.p f = v ∧ KeepsAllBut [] [f] s t ∧ KeepsMemory s t ∧ t.pc = s.pc

/-- R181: NOP changes nothing; a step at one advances PC by 1 and changes nothing else. -/
def Obligations.NopResult : Prop :=
  EncodedAs .nop [(.imp, 0xEA)] ∧ (∀ s : State, exec .nop s = .next s) ∧
  ∀ s : State, s.readByte s.pc = 0xEA#8 → step s = .next (s.setPc (s.pc + 1#16))

/-- R77, R182: each of the 105 unassigned bytes is a one-byte no-op; a step at one advances PC by 1
and changes nothing else. -/
def Obligations.UnassignedOpcodesAreNoOps : Prop :=
  unassignedOpcodes.length = 105 ∧ unassignedOpcodes.Nodup ∧
  (∀ (i : Instr) (b0 : Byte), i.shape = .unassigned b0 →
    b0 ∈ unassignedOpcodes ∧ encode i = [b0] ∧ ∀ s, exec i s = .next s) ∧
  ∀ s : State, s.readByte s.pc ∈ unassignedOpcodes → step s = .next (s.setPc (s.pc + 1#16))

/-- R183, R204: BRK pushes the address after its padding byte, high byte first, and then P with
Break and Unused 1; it sets Interrupt-disable, leaves every other flag, A, X and Y, and takes PC
from the vector at 0xFFFE. A step at BRK pushes the BRK's address plus 2. -/
def Obligations.BrkResult : Prop :=
  EncodedAs .brk [(.imp, 0x00)] ∧
  (∀ s : State, Completes .brk s fun t =>
    t.mem.read (stackAddress s.sp) = (s.pc + 1#16).extractLsb' 8 8 ∧
    t.mem.read (stackAddress (s.sp - 1#8)) = (s.pc + 1#16).extractLsb' 0 8 ∧
    t.mem.read (stackAddress (s.sp - 2#8)) = s.p ||| 0x30#8 ∧
    (∀ ea, ea ≠ stackAddress s.sp → ea ≠ stackAddress (s.sp - 1#8) →
      ea ≠ stackAddress (s.sp - 2#8) → t.mem.read ea = s.mem.read ea) ∧
    t.console = s.console ∧ t.sp = s.sp - 3#8 ∧ getFlag t.p .i = true ∧
    KeepsAllBut [.sp] [.i] s t ∧
    t.pc = Word.ofBytes (s.readByte 0xFFFF#16) (s.readByte 0xFFFE#16)) ∧
  ∀ s : State, s.readByte s.pc = 0x00#8 → step s = exec .brk (s.setPc (s.pc + 1#16))

/-- R184, R205: RTI pulls P, Break cleared and Unused set, then the return address, low byte first,
and continues there without adding 1. The spec marks the pull order as derived. -/
def Obligations.RtiResult : Prop :=
  EncodedAs .rti [(.imp, 0x40)] ∧
  ∀ s : State, Completes .rti s fun t =>
    t.p = (s.readByte (stackAddress (s.sp + 1#8)) &&& 0xEF#8) ||| 0x20#8 ∧
    t.pc.toNat = (s.readByte (stackAddress (s.sp + 2#8))).toNat +
      256 * (s.readByte (stackAddress (s.sp + 3#8))).toNat ∧
    t.sp = s.sp + 3#8 ∧ KeepsAllBut [.sp] [.c, .z, .i, .d, .b, .u, .v, .n] s t ∧ KeepsMemory s t

/-- R205: a handler that leaves SP where BRK left it and the three pushed bytes as they are returns,
by RTI, to the address after the padding byte with SP and P as they were; that P is restored needs
the lawful state's Break and Unused. It follows from the rules of BRK and RTI. -/
def Obligations.BreakThenReturn : Prop :=
  ∀ s : State, s.lawful = true → Completes .brk s fun t =>
    ∀ u : State, u.sp = t.sp →
      u.mem.read (stackAddress s.sp) = t.mem.read (stackAddress s.sp) →
      u.mem.read (stackAddress (s.sp - 1#8)) = t.mem.read (stackAddress (s.sp - 1#8)) →
      u.mem.read (stackAddress (s.sp - 2#8)) = t.mem.read (stackAddress (s.sp - 2#8)) →
      Completes .rti u fun w => w.pc = s.pc + 1#16 ∧ w.sp = s.sp ∧ w.p = s.p

/-! ## The machine as a whole -/

/-- R22, R23, R24, R27: a register changes only by an instruction the spec lists as writing it; A by
a shift or rotate only in accumulator mode. The spec marks R22, R23 and R24 as derived. -/
def Obligations.RegisterWritersOnly : Prop :=
  ∀ (i : Instr) (s t : State) (r : Reg), exec i s = .next t → t.reg r ≠ s.reg r →
    ∃ mn o, i.shape = .documented mn o ∧ mn ∈ registerWriters r ∧
      (r = .a → mn ∈ [.asl, .lsr, .rol, .ror] → o = .acc)

/-- R29 to R36: a flag changes only by an instruction the spec lists as writing it; Break and Unused
change only from a state that is not lawful. The spec marks most of these rules as derived. -/
def Obligations.FlagWritersOnly : Prop :=
  ∀ (i : Instr) (s t : State) (f : Flag), exec i s = .next t → getFlag t.p f ≠ getFlag s.p f →
    (∃ mn o, i.shape = .documented mn o ∧ mn ∈ flagWriters f) ∧
      (f = .b ∨ f = .u → s.lawful = false)

/-- R49, R75: only the stores, the read-modify-write instructions on memory and the pushes write
memory or emit a console byte. The spec marks both rules as derived. -/
def Obligations.MemoryWritersOnly : Prop :=
  ∀ (i : Instr) (s t : State), exec i s = .next t →
    (∀ mn o, i.shape = .documented mn o → mn ∈ memoryWriters → o = .acc) → KeepsMemory s t

/-- R221: a step emits at most one console byte, which the spec marks as derived, and if it emits
one, that byte is stored at the console port. -/
def Obligations.StepEmitsAtMostOneByte : Prop :=
  ∀ s t : State, step s = .next t →
    t.console = s.console ∨ ∃ v, t.console = s.console ++ [v] ∧ t.mem.read 0xF001#16 = v

/-- R31, R32: Interrupt-disable and Decimal are stored only. For every instruction but PHP and BRK,
which push them, changing one of them before a step changes nothing after it but that flag. The spec marks R31 as
derived. -/
def Obligations.StoredFlagsHaveNoEffect : Prop :=
  ∀ (s t : State) (f : Flag) (on : Bool), f ∈ [Flag.i, .d] →
    mnemonicOf s.fetch ≠ some .php → mnemonicOf s.fetch ≠ some .brk → step s = .next t →
    ∃ t', step (s.setFlag f on) = .next t' ∧
      t' = t.setP t'.p ∧ ∀ g, g ≠ f → getFlag t'.p g = getFlag t.p g

/-- R163, R229: a jump to its own address is parked, and so is a branch to itself while its flag
holds. The spec marks the fixed point as derived. -/
def Obligations.SelfJumpIsParked : Prop :=
  (∀ s : State, s.codeByte 0 = 0x4C#8 → Word.ofBytes (s.codeByte 2) (s.codeByte 1) = s.pc →
    s.parked) ∧
  (∀ (s : State) (mn : Mnemonic) (op : Byte) (f : Flag) (v : Bool),
    (mn, op, f, v) ∈ branchConditions → s.codeByte 0 = op → s.codeByte 1 = 0xFE#8 →
    getFlag s.p f = v → s.parked)

/-! ## The host's interface -/

/-- R8, R213, R222: under every schedule of host calls, from a lawful state, the machine never stops
and its state stays lawful. -/
def Obligations.EveryScheduleStaysLawful : Prop :=
  ∀ (calls : List HostCall) (s : State), s.lawful = true →
    ∃ t, runSchedule calls s = .next t ∧ t.lawful = true

/-- R224: after the loader's procedure the image holds the program at its start address, the reset
vector where the program does not cover it, and 0x00 elsewhere; the registers are those of reset,
and no console event was emitted. -/
def Obligations.LoaderProcedure : Prop :=
  ∀ (s : State) (code : List Byte) (start : Word), code.length ≤ 65536 →
    (∀ k (h : k < code.length), (s.load code start).mem.read (start + BitVec.ofNat 16 k) = code[k]) ∧
    (∀ a : Word, (∀ k, k < code.length → a ≠ start + BitVec.ofNat 16 k) →
      (s.load code start).mem.read a =
        if a = 0xFFFC#16 then start.extractLsb' 0 8
        else if a = 0xFFFD#16 then start.extractLsb' 8 8 else 0x00#8) ∧
    (s.load code start).snapshot =
      { a := 0x00#8, x := 0x00#8, y := 0x00#8, sp := 0xFD#8, p := 0x24#8,
        pc := (s.load code start).read16 0xFFFC#16 } ∧
    (s.load code start).console = s.console

/-! ## The assembler -/

/-- R94: a diagnostic suppresses the machine code entirely. -/
def Obligations.DiagnosticsSuppressCode : Prop :=
  ∀ source : List Char, (Asm.assemble source).errors ≠ [] → (Asm.assemble source).machineCode = []

/-- R90's emission once a mode is chosen: for every table entry but a branch's and every value,
`Asm.emitInstruction` gives the opcode byte in its mode's length, and those bytes decode to the
instruction meant. Whether a source line comes to emit so is not said here: `Asm.emitLine` first rejects
`STX addr,Y` with an address above 0xFF (`Asm.isWideStx`; IndexedStoresRejectWideAddresses). -/
def Obligations.TableEntriesAssemble : Prop :=
  ∀ (mn : Mnemonic) (md : Mode) (op : Byte) (address v : Nat), mn.opcode md = some op → md ≠ .rel →
    ∃ rest i, Asm.emitInstruction mn md address v = ([], op :: rest) ∧
      (op :: rest).length = md.length ∧ decode (op :: rest) = .ok (i, []) ∧
      i.shape = .documented mn (Asm.operandOf md v)

/-- R91: a branch to a target in range is emitted as the displacement from the address after it,
which is the one that takes the engine there; out of range it gives a diagnostic. -/
def Obligations.AssembledBranchReachesTarget : Prop :=
  ∀ (mn : Mnemonic) (op : Byte) (f : Flag) (v : Bool), (mn, op, f, v) ∈ branchConditions →
    ∀ address target : Nat, target < 65536 →
      let distance : Int := (target : Int) - (address + 2)
      ((-128 ≤ distance ∧ distance ≤ 127) → ∃ d,
        Asm.emitInstruction mn .rel address target = ([], [op, d]) ∧
        (d.toNat : Int) = distance % 256 ∧
        BitVec.ofNat 16 (address + 2) + signExtend d = BitVec.ofNat 16 target) ∧
      (¬(-128 ≤ distance ∧ distance ≤ 127) →
        (Asm.emitInstruction mn .rel address target).1 = [.branchOutOfRange])

/-- R81, R83, R89, R96: the two passes agree. Pass 2 emits a line at its cursor, and emits exactly the
bytes pass 1 counted for it, or nothing where the line has a diagnostic. In every source without
diagnostics, each line that binds a label stands in pass 2 at the address pass 1 gave it, and that is
what the label resolves to; in every source in which no `.ORG` names a label bound on a later line,
each line stands so. A label's value is the address pass 1 gave the last line that binds it. Values
are masked as assumption 10 says; that a source whose labels the passes place apart is diagnosed is
the model's choice (assumption 11), and so is that a branch out of range emits (assumption 13). -/
def Obligations.PassesAgreeOnAddresses : Prop :=
  (∀ (labels : Asm.Labels) (cursor : Nat) (l : Asm.Placed),
    let e := Asm.emission labels cursor l
    e.address = cursor ∧ e.line = l.line.number ∧ (e.bytes = [] ∨ e.bytes.length = l.size) ∧
      (e.problems = [] → e.bytes.length = l.size)) ∧
  (∀ source : List Char, (Asm.assemble source).errors = [] →
    let placed := Asm.pass1 [] Config.defaultOrigin (Asm.parseSource source)
    ∀ (k : Nat) (l : Asm.Placed) (e : Asm.Emission) (ident : List Char),
      placed.1[k]? = some l → (Asm.emissions source)[k]? = some e → l.line.label = some ident →
      e.address = l.address ∧
        (Asm.Term.name ident).resolve placed.2 = .value (e.address % 65536)) ∧
  ∀ lines : List Asm.Line,
    let placed := Asm.pass1 [] Config.defaultOrigin lines
    (Asm.NoForwardOrigin lines →
      (Asm.emissionsOf lines).map Asm.Emission.address = placed.1.map Asm.Placed.address) ∧
    ∀ (k : Nat) (l : Asm.Placed) (ident : List Char), placed.1[k]? = some l →
      l.line.label = some ident → (∀ later ∈ lines.drop (k + 1), later.label ≠ some ident) →
      (Asm.Term.name ident).resolve placed.2 = .value (l.address % 65536)

/-- R81, R85: each pass walks the lines in order. A line other than `.ORG` moves the cursor on by its
bytes; `.ORG` sets it, in pass 2 to what its value resolves to against the completed label table.
That the cursor is not wrapped past 0xFFFF, and that an origin is masked to 16 bits, is the model's
choice (assumptions 10 and 13). -/
def Obligations.PassesWalkTheLines : Prop :=
  ∀ (lines : List Asm.Line) (k : Nat) (l l' : Asm.Placed),
    let placed := Asm.pass1 [] Config.defaultOrigin lines
    placed.1[k]? = some l → placed.1[k + 1]? = some l' →
      ((∀ t, l.line.statement ≠ .org t) → l'.address = l.address + l.size) ∧
      (∀ n, l.line.statement = .org (.number n) → l'.address = n % 65536) ∧
      ∃ e e', (Asm.emissionsOf lines)[k]? = some e ∧ (Asm.emissionsOf lines)[k + 1]? = some e' ∧
        ((∀ t, l.line.statement ≠ .org t) → e'.address = e.address + l.size) ∧
        (∀ t, l.line.statement = .org t → e'.address = (t.resolve placed.2).orZero % 65536)

/-- R104, R96, R90: what pass 2 gives for `STX addr,Y` and `STY addr,X`, with `l` the line as pass 1
placed it and `v` its address against the completed label table. `STX addr,Y` above 0xFF is rejected,
however pass 1 placed it (R104). `STY addr,X` is rejected where its address was known in pass 1 and above
0xFF (R88, R89). A label not bound in pass 1 sizes the line zero-page-Y or zero-page-X, two bytes, and
pass 2 keeps that mode and emits the low byte (R96, R90): for STX at most 0xFF, for STY whatever the label
comes to be. That R104 goes before R96 for STX, and R96 before the absolute of D25 and C4, are the model's
choices, DESIGN CHOICE (assumption 18); so is the masking to 16 bits (assumption 10). -/
def Obligations.IndexedStoresRejectWideAddresses : Prop :=
  ∀ (labels before bound : Asm.Labels) (cursor address : Nat) (line : Asm.Line) (t : Asm.Term) (v : Nat),
    t.resolve labels = .value v →
    let l := Asm.placeLine before bound address line
    (line.statement = .instruction .stx (.indexedY t) →
      (0xFF < v % 65536 → ∀ p : Asm.Placed, p.line = line →
        Asm.emitLine labels cursor p = ([.invalidAddressingMode], [])) ∧
      (t.resolve bound = .unbound → l.size = 2 ∧ (v % 65536 ≤ 0xFF →
        Asm.emitLine labels cursor l = ([], [0x96#8, BitVec.ofNat 8 v])))) ∧
    (line.statement = .instruction .sty (.indexedX t) →
      (∀ w, t.resolve bound = .value w → 0xFF < w % 65536 →
        Asm.emitLine labels cursor l = ([.invalidAddressingMode], [])) ∧
      (t.resolve bound = .unbound → l.size = 2 ∧
        Asm.emitLine labels cursor l = ([], [0x94#8, BitVec.ofNat 8 v])))
end

