-- ==== Sys2Proof/Laws/Decode.lean ====
section
/-!
SUPPORT. The laws of the encoding: the bytes of a word, the lengths of operands and encodings, and
what the opcode byte of an encoding is.
-/

namespace Sys2Proof

/-! ## Bytes of a word -/

theorem Word.ofBytes_toNat (hi lo : Byte) :
    (Word.ofBytes hi lo).toNat = hi.toNat * 256 + lo.toNat := by
  simp only [Word.ofBytes, BitVec.toNat_append]
  rw [← Nat.shiftLeft_add_eq_or_of_lt lo.isLt, Nat.shiftLeft_eq]

theorem Word.highByte_toNat (w : Word) : w.highByte.toNat = w.toNat / 256 := by
  have := w.isLt
  simp only [Word.highByte, BitVec.extractLsb'_toNat, Nat.shiftRight_eq_div_pow]
  omega

theorem Word.lowByte_toNat (w : Word) : w.lowByte.toNat = w.toNat % 256 := by
  simp [Word.lowByte]

@[simp] theorem Word.highByte_ofBytes (hi lo : Byte) : (Word.ofBytes hi lo).highByte = hi := by
  apply BitVec.eq_of_toNat_eq
  have := lo.isLt
  rw [Word.highByte_toNat, Word.ofBytes_toNat]
  omega

@[simp] theorem Word.lowByte_ofBytes (hi lo : Byte) : (Word.ofBytes hi lo).lowByte = lo := by
  apply BitVec.eq_of_toNat_eq
  have := lo.isLt
  rw [Word.lowByte_toNat, Word.ofBytes_toNat]
  omega

/-- A word is the value of its two bytes. -/
@[simp] theorem Word.ofBytes_bytes (w : Word) : Word.ofBytes w.highByte w.lowByte = w := by
  apply BitVec.eq_of_toNat_eq
  rw [Word.ofBytes_toNat, Word.highByte_toNat, Word.lowByte_toNat]
  omega

/-! ## Encodings -/

/-- An operand's bytes fill its mode's format after the opcode (R61). -/
@[simp] theorem Operand.length_bytes (o : Operand) : o.bytes.length + 1 = o.mode.length := by
  cases o <;> rfl

/-- A documented instruction is encoded as the table's opcode byte and its operand's bytes. -/
theorem encode_documented {i : Instr} {mn : Mnemonic} {o : Operand} {op : Byte}
    (h : i.shape = .documented mn o) (hop : mn.opcode o.mode = some op) :
    encode i = op :: o.bytes := by
  simp [encode, h, Shape.encode, hop]

/-- A well-formed shape has bytes, as many as its length. -/
theorem Shape.encode_of_wellFormed {sh : Shape} (h : sh.wellFormed = true) :
    ∃ bytes, sh.encode = some bytes ∧ bytes.length = sh.length := by
  cases sh with
  | documented mn o =>
    obtain ⟨op, hop⟩ := Option.isSome_iff_exists.mp h
    exact ⟨op :: o.bytes, by simp [Shape.encode, hop], by simp [Shape.length]⟩
  | unassigned b0 =>
    have h' : unassignedOpcodes.contains b0 = true := h
    exact ⟨[b0], by simp only [Shape.encode, h', if_true], rfl⟩

/-- The number of bytes of a well-formed instruction. -/
theorem encode_length {i : Instr} (h : i.wellFormed = true) : (encode i).length = i.length := by
  obtain ⟨bytes, he, hl⟩ := Shape.encode_of_wellFormed h
  simp [encode, he, Instr.length, hl]

end Sys2Proof
end

