-- ==== Sys2Proof/Laws/Assembler.lean ====
section
/-!
SUPPORT. What the assembler's shared functions can do, for the proofs about its two passes: binding
and looking up labels, what an instruction emits, and the cursor.
-/

namespace Sys2Proof.Asm

/-- A label just bound resolves to the cursor it was bound to, and hides an older binding (R83). -/
@[simp] theorem resolve_name_cons (ident other : List Char) (value : Nat) (labels : Labels) :
    (Term.name ident).resolve ((other, value) :: labels) =
      if other = ident then .value value else (Term.name ident).resolve labels := by
  by_cases h : other = ident <;> simp [Term.resolve, h]

@[simp] theorem resolve_number (n : Nat) (labels : Labels) :
    (Term.number n).resolve labels = .value n := rfl

@[simp] theorem resolve_malformed (labels : Labels) :
    Term.malformed.resolve labels = .malformed := rfl

/-- Binding a line's label leaves what every other name resolves to. -/
theorem resolve_bindLabel_of_ne {ident : List Char} (labels : Labels) (cursor : Nat) {line : Line}
    (h : line.label ≠ some ident) :
    (Term.name ident).resolve (bindLabel labels cursor line) = (Term.name ident).resolve labels := by
  cases hl : line.label <;> simp_all [bindLabel]

/-- Binding a line's label gives it the cursor, masked to 16 bits (R83). -/
theorem resolve_bindLabel_self {ident : List Char} (labels : Labels) (cursor : Nat) {line : Line}
    (h : line.label = some ident) :
    (Term.name ident).resolve (bindLabel labels cursor line) = .value (cursor % 65536) := by
  simp [bindLabel, h]

/-- A name that no line of a pass binds resolves as it did before the pass. -/
theorem resolve_pass1_of_ne {ident : List Char} (lines : List Line) (labels : Labels)
    (cursor : Nat) (h : ∀ line ∈ lines, line.label ≠ some ident) :
    (Term.name ident).resolve (pass1 labels cursor lines).2 = (Term.name ident).resolve labels := by
  induction lines generalizing labels cursor with
  | nil => rfl
  | cons line lines ih =>
    simp only [List.mem_cons, forall_eq_or_imp] at h
    rw [pass1, ih _ _ h.2, resolve_bindLabel_of_ne labels cursor h.1]

/-- The lines that pass 1 places are the lines it is given. -/
theorem pass1_lines (lines : List Line) (labels : Labels) (cursor : Nat) :
    (pass1 labels cursor lines).1.map Placed.line = lines := by
  induction lines generalizing labels cursor with
  | nil => rfl
  | cons line lines ih => rw [pass1, List.map_cons, ih]; rfl

/-- Where a line that is no `.ORG` leaves the cursor does not depend on the labels. -/
theorem advance_of_not_org {l : Placed} (labels : Labels) (cursor : Nat)
    (h : ∀ t, l.line.statement ≠ .org t) : l.advance labels cursor = cursor + l.size := by
  unfold Placed.advance
  split
  · exact absurd ‹_› (h _)
  · rfl

/-- An `.ORG` sets the cursor to its value, masked to 16 bits (R85). -/
theorem advance_of_org {l : Placed} {t : Term} (labels : Labels) (cursor : Nat)
    (h : l.line.statement = .org t) :
    l.advance labels cursor = (t.resolve labels).orZero % 65536 := by
  simp [Placed.advance, h]

@[simp] theorem emittedOperand_mode (md : Mode) (address v : Nat) :
    (emittedOperand md address v).mode = md := by cases md <;> rfl

/-- An instruction emits nothing and gives a diagnostic, or emits its mode's length in bytes (R89 to
R91). -/
theorem emitInstruction_length (mn : Mnemonic) (md : Mode) (address v : Nat) :
    emitInstruction mn md address v = ([.invalidAddressingMode], []) ∨
      (emitInstruction mn md address v).2.length = md.length := by
  cases h : mn.opcode md with
  | none => exact .inl (by simp [emitInstruction, Shape.encode, h])
  | some op =>
    right
    simp only [emitInstruction, Shape.encode, emittedOperand_mode, h, Option.map_some]
    split <;> simp

/-- A line emits nothing and gives a diagnostic, or emits as many bytes as pass 1 counted (R81). -/
theorem emitLine_length (labels : Labels) (cursor : Nat) (l : Placed) :
    ((emitLine labels cursor l).1 ≠ [] ∧ (emitLine labels cursor l).2 = []) ∨
      (emitLine labels cursor l).2.length = l.size := by
  cases hs : l.line.statement with
  | instruction mn form =>
    simp only [emitLine, Placed.size, hs]
    split
    · exact .inl (by simp)
    · exact (emitInstruction_length mn l.mode cursor _).imp_left fun h => by simp [h]
  | nothing | org _ | text _ | bytes _ | unknown => exact .inr (by simp [emitLine, Placed.size, hs])

/-- A line has no diagnostic exactly when it has no problem, emits nothing below the start address,
and is not misplaced (R94 to R96). -/
theorem diagnostics_eq_nil (start : Nat) (e : Emission) :
    e.diagnostics start = [] ↔
      e.problems = [] ∧ e.misplaced = false ∧ (e.bytes = [] ∨ start ≤ e.address) := by
  cases h : e.misplaced
  · simp [Emission.diagnostics, h, or_iff_not_imp_left]
  · simp [Emission.diagnostics, h]

/-- A line is not misplaced exactly when it binds no label, or the cursor of pass 2 is at its address
(R96). -/
theorem emission_misplaced_eq_false (labels : Labels) (cursor : Nat) (l : Placed) :
    (emission labels cursor l).misplaced = false ↔
      l.line.label = none ∨ l.address = cursor := by
  cases h : l.line.label <;> simp [emission, h]

end Sys2Proof.Asm
end

