-- ==== Sys2Proof/Laws/PerInstr.lean ====
section
/-!
SUPPORT. The families of statements made instruction by instruction. `EncodedLength`: the
instruction is well formed and its encoding has the length by which the step advances PC.
-/

namespace Sys2Proof.Laws.EncodedLength

/-- The instruction has an encoding (30_encoding.md R76 to R78), of the length of its format
(R61). -/
def Statement (i : Instr) : Prop := i.wellFormed = true ∧ (encode i).length = i.length

/-- A well-formed instruction is encoded in its format's length. -/
theorem of_wellFormed {i : Instr} (h : i.wellFormed = true) : Statement i := ⟨h, encode_length h⟩

theorem brk : Statement .brk := of_wellFormed rfl
theorem oraIndx (z : Byte) : Statement (.oraIndx z) := of_wellFormed rfl
theorem oraZp (z : Byte) : Statement (.oraZp z) := of_wellFormed rfl
theorem aslZp (z : Byte) : Statement (.aslZp z) := of_wellFormed rfl
theorem php : Statement .php := of_wellFormed rfl
theorem oraImm (v : Byte) : Statement (.oraImm v) := of_wellFormed rfl
theorem aslAcc : Statement .aslAcc := of_wellFormed rfl
theorem oraAbs (a : Word) : Statement (.oraAbs a) := of_wellFormed rfl
theorem aslAbs (a : Word) : Statement (.aslAbs a) := of_wellFormed rfl
theorem bpl (d : Byte) : Statement (.bpl d) := of_wellFormed rfl
theorem oraIndy (z : Byte) : Statement (.oraIndy z) := of_wellFormed rfl
theorem oraZpx (z : Byte) : Statement (.oraZpx z) := of_wellFormed rfl
theorem aslZpx (z : Byte) : Statement (.aslZpx z) := of_wellFormed rfl
theorem clc : Statement .clc := of_wellFormed rfl
theorem oraAbsy (a : Word) : Statement (.oraAbsy a) := of_wellFormed rfl
theorem oraAbsx (a : Word) : Statement (.oraAbsx a) := of_wellFormed rfl
theorem aslAbsx (a : Word) : Statement (.aslAbsx a) := of_wellFormed rfl
theorem jsr (a : Word) : Statement (.jsr a) := of_wellFormed rfl
theorem andIndx (z : Byte) : Statement (.andIndx z) := of_wellFormed rfl
theorem bitZp (z : Byte) : Statement (.bitZp z) := of_wellFormed rfl
theorem andZp (z : Byte) : Statement (.andZp z) := of_wellFormed rfl
theorem rolZp (z : Byte) : Statement (.rolZp z) := of_wellFormed rfl
theorem plp : Statement .plp := of_wellFormed rfl
theorem andImm (v : Byte) : Statement (.andImm v) := of_wellFormed rfl
theorem rolAcc : Statement .rolAcc := of_wellFormed rfl
theorem bitAbs (a : Word) : Statement (.bitAbs a) := of_wellFormed rfl
theorem andAbs (a : Word) : Statement (.andAbs a) := of_wellFormed rfl
theorem rolAbs (a : Word) : Statement (.rolAbs a) := of_wellFormed rfl
theorem bmi (d : Byte) : Statement (.bmi d) := of_wellFormed rfl
theorem andIndy (z : Byte) : Statement (.andIndy z) := of_wellFormed rfl
theorem andZpx (z : Byte) : Statement (.andZpx z) := of_wellFormed rfl
theorem rolZpx (z : Byte) : Statement (.rolZpx z) := of_wellFormed rfl
theorem sec : Statement .sec := of_wellFormed rfl
theorem andAbsy (a : Word) : Statement (.andAbsy a) := of_wellFormed rfl
theorem andAbsx (a : Word) : Statement (.andAbsx a) := of_wellFormed rfl
theorem rolAbsx (a : Word) : Statement (.rolAbsx a) := of_wellFormed rfl
theorem rti : Statement .rti := of_wellFormed rfl
theorem eorIndx (z : Byte) : Statement (.eorIndx z) := of_wellFormed rfl
theorem eorZp (z : Byte) : Statement (.eorZp z) := of_wellFormed rfl
theorem lsrZp (z : Byte) : Statement (.lsrZp z) := of_wellFormed rfl
theorem pha : Statement .pha := of_wellFormed rfl
theorem eorImm (v : Byte) : Statement (.eorImm v) := of_wellFormed rfl
theorem lsrAcc : Statement .lsrAcc := of_wellFormed rfl
theorem jmpAbs (a : Word) : Statement (.jmpAbs a) := of_wellFormed rfl
theorem eorAbs (a : Word) : Statement (.eorAbs a) := of_wellFormed rfl
theorem lsrAbs (a : Word) : Statement (.lsrAbs a) := of_wellFormed rfl
theorem bvc (d : Byte) : Statement (.bvc d) := of_wellFormed rfl
theorem eorIndy (z : Byte) : Statement (.eorIndy z) := of_wellFormed rfl
theorem eorZpx (z : Byte) : Statement (.eorZpx z) := of_wellFormed rfl
theorem lsrZpx (z : Byte) : Statement (.lsrZpx z) := of_wellFormed rfl
theorem cli : Statement .cli := of_wellFormed rfl
theorem eorAbsy (a : Word) : Statement (.eorAbsy a) := of_wellFormed rfl
theorem eorAbsx (a : Word) : Statement (.eorAbsx a) := of_wellFormed rfl
theorem lsrAbsx (a : Word) : Statement (.lsrAbsx a) := of_wellFormed rfl
theorem rts : Statement .rts := of_wellFormed rfl
theorem adcIndx (z : Byte) : Statement (.adcIndx z) := of_wellFormed rfl
theorem adcZp (z : Byte) : Statement (.adcZp z) := of_wellFormed rfl
theorem rorZp (z : Byte) : Statement (.rorZp z) := of_wellFormed rfl
theorem pla : Statement .pla := of_wellFormed rfl
theorem adcImm (v : Byte) : Statement (.adcImm v) := of_wellFormed rfl
theorem rorAcc : Statement .rorAcc := of_wellFormed rfl
theorem jmpInd (ptr : Word) : Statement (.jmpInd ptr) := of_wellFormed rfl
theorem adcAbs (a : Word) : Statement (.adcAbs a) := of_wellFormed rfl
theorem rorAbs (a : Word) : Statement (.rorAbs a) := of_wellFormed rfl
theorem bvs (d : Byte) : Statement (.bvs d) := of_wellFormed rfl
theorem adcIndy (z : Byte) : Statement (.adcIndy z) := of_wellFormed rfl
theorem adcZpx (z : Byte) : Statement (.adcZpx z) := of_wellFormed rfl
theorem rorZpx (z : Byte) : Statement (.rorZpx z) := of_wellFormed rfl
theorem sei : Statement .sei := of_wellFormed rfl
theorem adcAbsy (a : Word) : Statement (.adcAbsy a) := of_wellFormed rfl
theorem adcAbsx (a : Word) : Statement (.adcAbsx a) := of_wellFormed rfl
theorem rorAbsx (a : Word) : Statement (.rorAbsx a) := of_wellFormed rfl
theorem staIndx (z : Byte) : Statement (.staIndx z) := of_wellFormed rfl
theorem styZp (z : Byte) : Statement (.styZp z) := of_wellFormed rfl
theorem staZp (z : Byte) : Statement (.staZp z) := of_wellFormed rfl
theorem stxZp (z : Byte) : Statement (.stxZp z) := of_wellFormed rfl
theorem dey : Statement .dey := of_wellFormed rfl
theorem txa : Statement .txa := of_wellFormed rfl
theorem styAbs (a : Word) : Statement (.styAbs a) := of_wellFormed rfl
theorem staAbs (a : Word) : Statement (.staAbs a) := of_wellFormed rfl
theorem stxAbs (a : Word) : Statement (.stxAbs a) := of_wellFormed rfl
theorem bcc (d : Byte) : Statement (.bcc d) := of_wellFormed rfl
theorem staIndy (z : Byte) : Statement (.staIndy z) := of_wellFormed rfl
theorem styZpx (z : Byte) : Statement (.styZpx z) := of_wellFormed rfl
theorem staZpx (z : Byte) : Statement (.staZpx z) := of_wellFormed rfl
theorem stxZpy (z : Byte) : Statement (.stxZpy z) := of_wellFormed rfl
theorem tya : Statement .tya := of_wellFormed rfl
theorem staAbsy (a : Word) : Statement (.staAbsy a) := of_wellFormed rfl
theorem txs : Statement .txs := of_wellFormed rfl
theorem staAbsx (a : Word) : Statement (.staAbsx a) := of_wellFormed rfl
theorem ldyImm (v : Byte) : Statement (.ldyImm v) := of_wellFormed rfl
theorem ldaIndx (z : Byte) : Statement (.ldaIndx z) := of_wellFormed rfl
theorem ldxImm (v : Byte) : Statement (.ldxImm v) := of_wellFormed rfl
theorem ldyZp (z : Byte) : Statement (.ldyZp z) := of_wellFormed rfl
theorem ldaZp (z : Byte) : Statement (.ldaZp z) := of_wellFormed rfl
theorem ldxZp (z : Byte) : Statement (.ldxZp z) := of_wellFormed rfl
theorem tay : Statement .tay := of_wellFormed rfl
theorem ldaImm (v : Byte) : Statement (.ldaImm v) := of_wellFormed rfl
theorem tax : Statement .tax := of_wellFormed rfl
theorem ldyAbs (a : Word) : Statement (.ldyAbs a) := of_wellFormed rfl
theorem ldaAbs (a : Word) : Statement (.ldaAbs a) := of_wellFormed rfl
theorem ldxAbs (a : Word) : Statement (.ldxAbs a) := of_wellFormed rfl
theorem bcs (d : Byte) : Statement (.bcs d) := of_wellFormed rfl
theorem ldaIndy (z : Byte) : Statement (.ldaIndy z) := of_wellFormed rfl
theorem ldyZpx (z : Byte) : Statement (.ldyZpx z) := of_wellFormed rfl
theorem ldaZpx (z : Byte) : Statement (.ldaZpx z) := of_wellFormed rfl
theorem ldxZpy (z : Byte) : Statement (.ldxZpy z) := of_wellFormed rfl
theorem clv : Statement .clv := of_wellFormed rfl
theorem ldaAbsy (a : Word) : Statement (.ldaAbsy a) := of_wellFormed rfl
theorem tsx : Statement .tsx := of_wellFormed rfl
theorem ldyAbsx (a : Word) : Statement (.ldyAbsx a) := of_wellFormed rfl
theorem ldaAbsx (a : Word) : Statement (.ldaAbsx a) := of_wellFormed rfl
theorem ldxAbsy (a : Word) : Statement (.ldxAbsy a) := of_wellFormed rfl
theorem cpyImm (v : Byte) : Statement (.cpyImm v) := of_wellFormed rfl
theorem cmpIndx (z : Byte) : Statement (.cmpIndx z) := of_wellFormed rfl
theorem cpyZp (z : Byte) : Statement (.cpyZp z) := of_wellFormed rfl
theorem cmpZp (z : Byte) : Statement (.cmpZp z) := of_wellFormed rfl
theorem decZp (z : Byte) : Statement (.decZp z) := of_wellFormed rfl
theorem iny : Statement .iny := of_wellFormed rfl
theorem cmpImm (v : Byte) : Statement (.cmpImm v) := of_wellFormed rfl
theorem dex : Statement .dex := of_wellFormed rfl
theorem cpyAbs (a : Word) : Statement (.cpyAbs a) := of_wellFormed rfl
theorem cmpAbs (a : Word) : Statement (.cmpAbs a) := of_wellFormed rfl
theorem decAbs (a : Word) : Statement (.decAbs a) := of_wellFormed rfl
theorem bne (d : Byte) : Statement (.bne d) := of_wellFormed rfl
theorem cmpIndy (z : Byte) : Statement (.cmpIndy z) := of_wellFormed rfl
theorem cmpZpx (z : Byte) : Statement (.cmpZpx z) := of_wellFormed rfl
theorem decZpx (z : Byte) : Statement (.decZpx z) := of_wellFormed rfl
theorem cld : Statement .cld := of_wellFormed rfl
theorem cmpAbsy (a : Word) : Statement (.cmpAbsy a) := of_wellFormed rfl
theorem cmpAbsx (a : Word) : Statement (.cmpAbsx a) := of_wellFormed rfl
theorem decAbsx (a : Word) : Statement (.decAbsx a) := of_wellFormed rfl
theorem cpxImm (v : Byte) : Statement (.cpxImm v) := of_wellFormed rfl
theorem sbcIndx (z : Byte) : Statement (.sbcIndx z) := of_wellFormed rfl
theorem cpxZp (z : Byte) : Statement (.cpxZp z) := of_wellFormed rfl
theorem sbcZp (z : Byte) : Statement (.sbcZp z) := of_wellFormed rfl
theorem incZp (z : Byte) : Statement (.incZp z) := of_wellFormed rfl
theorem inx : Statement .inx := of_wellFormed rfl
theorem sbcImm (v : Byte) : Statement (.sbcImm v) := of_wellFormed rfl
theorem nop : Statement .nop := of_wellFormed rfl
theorem cpxAbs (a : Word) : Statement (.cpxAbs a) := of_wellFormed rfl
theorem sbcAbs (a : Word) : Statement (.sbcAbs a) := of_wellFormed rfl
theorem incAbs (a : Word) : Statement (.incAbs a) := of_wellFormed rfl
theorem beq (d : Byte) : Statement (.beq d) := of_wellFormed rfl
theorem sbcIndy (z : Byte) : Statement (.sbcIndy z) := of_wellFormed rfl
theorem sbcZpx (z : Byte) : Statement (.sbcZpx z) := of_wellFormed rfl
theorem incZpx (z : Byte) : Statement (.incZpx z) := of_wellFormed rfl
theorem sed : Statement .sed := of_wellFormed rfl
theorem sbcAbsy (a : Word) : Statement (.sbcAbsy a) := of_wellFormed rfl
theorem sbcAbsx (a : Word) : Statement (.sbcAbsx a) := of_wellFormed rfl
theorem incAbsx (a : Word) : Statement (.incAbsx a) := of_wellFormed rfl
theorem unassigned02 : Statement .unassigned02 := of_wellFormed rfl
theorem unassigned03 : Statement .unassigned03 := of_wellFormed rfl
theorem unassigned04 : Statement .unassigned04 := of_wellFormed rfl
theorem unassigned07 : Statement .unassigned07 := of_wellFormed rfl
theorem unassigned0B : Statement .unassigned0B := of_wellFormed rfl
theorem unassigned0C : Statement .unassigned0C := of_wellFormed rfl
theorem unassigned0F : Statement .unassigned0F := of_wellFormed rfl
theorem unassigned12 : Statement .unassigned12 := of_wellFormed rfl
theorem unassigned13 : Statement .unassigned13 := of_wellFormed rfl
theorem unassigned14 : Statement .unassigned14 := of_wellFormed rfl
theorem unassigned17 : Statement .unassigned17 := of_wellFormed rfl
theorem unassigned1A : Statement .unassigned1A := of_wellFormed rfl
theorem unassigned1B : Statement .unassigned1B := of_wellFormed rfl
theorem unassigned1C : Statement .unassigned1C := of_wellFormed rfl
theorem unassigned1F : Statement .unassigned1F := of_wellFormed rfl
theorem unassigned22 : Statement .unassigned22 := of_wellFormed rfl
theorem unassigned23 : Statement .unassigned23 := of_wellFormed rfl
theorem unassigned27 : Statement .unassigned27 := of_wellFormed rfl
theorem unassigned2B : Statement .unassigned2B := of_wellFormed rfl
theorem unassigned2F : Statement .unassigned2F := of_wellFormed rfl
theorem unassigned32 : Statement .unassigned32 := of_wellFormed rfl
theorem unassigned33 : Statement .unassigned33 := of_wellFormed rfl
theorem unassigned34 : Statement .unassigned34 := of_wellFormed rfl
theorem unassigned37 : Statement .unassigned37 := of_wellFormed rfl
theorem unassigned3A : Statement .unassigned3A := of_wellFormed rfl
theorem unassigned3B : Statement .unassigned3B := of_wellFormed rfl
theorem unassigned3C : Statement .unassigned3C := of_wellFormed rfl
theorem unassigned3F : Statement .unassigned3F := of_wellFormed rfl
theorem unassigned42 : Statement .unassigned42 := of_wellFormed rfl
theorem unassigned43 : Statement .unassigned43 := of_wellFormed rfl
theorem unassigned44 : Statement .unassigned44 := of_wellFormed rfl
theorem unassigned47 : Statement .unassigned47 := of_wellFormed rfl
theorem unassigned4B : Statement .unassigned4B := of_wellFormed rfl
theorem unassigned4F : Statement .unassigned4F := of_wellFormed rfl
theorem unassigned52 : Statement .unassigned52 := of_wellFormed rfl
theorem unassigned53 : Statement .unassigned53 := of_wellFormed rfl
theorem unassigned54 : Statement .unassigned54 := of_wellFormed rfl
theorem unassigned57 : Statement .unassigned57 := of_wellFormed rfl
theorem unassigned5A : Statement .unassigned5A := of_wellFormed rfl
theorem unassigned5B : Statement .unassigned5B := of_wellFormed rfl
theorem unassigned5C : Statement .unassigned5C := of_wellFormed rfl
theorem unassigned5F : Statement .unassigned5F := of_wellFormed rfl
theorem unassigned62 : Statement .unassigned62 := of_wellFormed rfl
theorem unassigned63 : Statement .unassigned63 := of_wellFormed rfl
theorem unassigned64 : Statement .unassigned64 := of_wellFormed rfl
theorem unassigned67 : Statement .unassigned67 := of_wellFormed rfl
theorem unassigned6B : Statement .unassigned6B := of_wellFormed rfl
theorem unassigned6F : Statement .unassigned6F := of_wellFormed rfl
theorem unassigned72 : Statement .unassigned72 := of_wellFormed rfl
theorem unassigned73 : Statement .unassigned73 := of_wellFormed rfl
theorem unassigned74 : Statement .unassigned74 := of_wellFormed rfl
theorem unassigned77 : Statement .unassigned77 := of_wellFormed rfl
theorem unassigned7A : Statement .unassigned7A := of_wellFormed rfl
theorem unassigned7B : Statement .unassigned7B := of_wellFormed rfl
theorem unassigned7C : Statement .unassigned7C := of_wellFormed rfl
theorem unassigned7F : Statement .unassigned7F := of_wellFormed rfl
theorem unassigned80 : Statement .unassigned80 := of_wellFormed rfl
theorem unassigned82 : Statement .unassigned82 := of_wellFormed rfl
theorem unassigned83 : Statement .unassigned83 := of_wellFormed rfl
theorem unassigned87 : Statement .unassigned87 := of_wellFormed rfl
theorem unassigned89 : Statement .unassigned89 := of_wellFormed rfl
theorem unassigned8B : Statement .unassigned8B := of_wellFormed rfl
theorem unassigned8F : Statement .unassigned8F := of_wellFormed rfl
theorem unassigned92 : Statement .unassigned92 := of_wellFormed rfl
theorem unassigned93 : Statement .unassigned93 := of_wellFormed rfl
theorem unassigned97 : Statement .unassigned97 := of_wellFormed rfl
theorem unassigned9B : Statement .unassigned9B := of_wellFormed rfl
theorem unassigned9C : Statement .unassigned9C := of_wellFormed rfl
theorem unassigned9E : Statement .unassigned9E := of_wellFormed rfl
theorem unassigned9F : Statement .unassigned9F := of_wellFormed rfl
theorem unassignedA3 : Statement .unassignedA3 := of_wellFormed rfl
theorem unassignedA7 : Statement .unassignedA7 := of_wellFormed rfl
theorem unassignedAB : Statement .unassignedAB := of_wellFormed rfl
theorem unassignedAF : Statement .unassignedAF := of_wellFormed rfl
theorem unassignedB2 : Statement .unassignedB2 := of_wellFormed rfl
theorem unassignedB3 : Statement .unassignedB3 := of_wellFormed rfl
theorem unassignedB7 : Statement .unassignedB7 := of_wellFormed rfl
theorem unassignedBB : Statement .unassignedBB := of_wellFormed rfl
theorem unassignedBF : Statement .unassignedBF := of_wellFormed rfl
theorem unassignedC2 : Statement .unassignedC2 := of_wellFormed rfl
theorem unassignedC3 : Statement .unassignedC3 := of_wellFormed rfl
theorem unassignedC7 : Statement .unassignedC7 := of_wellFormed rfl
theorem unassignedCB : Statement .unassignedCB := of_wellFormed rfl
theorem unassignedCF : Statement .unassignedCF := of_wellFormed rfl
theorem unassignedD2 : Statement .unassignedD2 := of_wellFormed rfl
theorem unassignedD3 : Statement .unassignedD3 := of_wellFormed rfl
theorem unassignedD4 : Statement .unassignedD4 := of_wellFormed rfl
theorem unassignedD7 : Statement .unassignedD7 := of_wellFormed rfl
theorem unassignedDA : Statement .unassignedDA := of_wellFormed rfl
theorem unassignedDB : Statement .unassignedDB := of_wellFormed rfl
theorem unassignedDC : Statement .unassignedDC := of_wellFormed rfl
theorem unassignedDF : Statement .unassignedDF := of_wellFormed rfl
theorem unassignedE2 : Statement .unassignedE2 := of_wellFormed rfl
theorem unassignedE3 : Statement .unassignedE3 := of_wellFormed rfl
theorem unassignedE7 : Statement .unassignedE7 := of_wellFormed rfl
theorem unassignedEB : Statement .unassignedEB := of_wellFormed rfl
theorem unassignedEF : Statement .unassignedEF := of_wellFormed rfl
theorem unassignedF2 : Statement .unassignedF2 := of_wellFormed rfl
theorem unassignedF3 : Statement .unassignedF3 := of_wellFormed rfl
theorem unassignedF4 : Statement .unassignedF4 := of_wellFormed rfl
theorem unassignedF7 : Statement .unassignedF7 := of_wellFormed rfl
theorem unassignedFA : Statement .unassignedFA := of_wellFormed rfl
theorem unassignedFB : Statement .unassignedFB := of_wellFormed rfl
theorem unassignedFC : Statement .unassignedFC := of_wellFormed rfl
theorem unassignedFF : Statement .unassignedFF := of_wellFormed rfl

end Sys2Proof.Laws.EncodedLength
end

