-- ==== Sys2Proof/Laws/Encoding.lean ====
section
/-!
SUPPORT. What the Instruction Set Table says about the instructions: each entry is one instruction
for every operand, and the encodings of a mnemonic are its row of the table.
-/

namespace Sys2Proof

/-- In a list with distinct keys, an entry is what the search for its key finds. -/
theorem find_key_iff {α β : Type} [DecidableEq α] {l : List (α × β)} (h : (l.map Prod.fst).Nodup)
    (a : α) (b : β) :
    (a, b) ∈ l ↔ (l.find? fun f => f.1 == a).map Prod.snd = some b := by
  induction l with
  | nil => simp
  | cons head rest ih =>
    obtain ⟨k, v⟩ := head
    simp only [List.map_cons, List.nodup_cons] at h
    by_cases hk : k = a
    · subst hk
      have hfree : (k, b) ∉ rest := fun hm => h.1 (List.mem_map_of_mem (f := Prod.fst) hm)
      simp [hfree, eq_comm]
    · have hk' : a ≠ k := Ne.symm hk
      simp [hk, hk', ih h.2]

/-- No mnemonic has two encodings in one mode. -/
theorem Mnemonic.forms_nodup (mn : Mnemonic) : (mn.forms.map Prod.fst).Nodup := by
  cases mn <;> decide

/-- The entries of a mnemonic's row are its opcodes by mode. -/
theorem Mnemonic.mem_forms {mn : Mnemonic} {md : Mode} {op : Byte} :
    (md, op) ∈ mn.forms ↔ mn.opcode md = some op :=
  find_key_iff mn.forms_nodup md op

/-- The decoder reads the operation and operand meant from an entry's opcode and operand bytes. -/
theorem decodeOp_of_opcode {mn : Mnemonic} {o : Operand} {op : Byte}
    (h : mn.opcode o.mode = some op) :
    (decodeOp op (o.bytes.getD 0 0) (o.bytes.getD 1 0)).shape = .documented mn o := by
  cases mn <;> cases o <;> first
    | (cases (show (none : Option Byte) = some op from h))
    | (obtain rfl := Option.some.inj h; rfl)
    | (obtain rfl := Option.some.inj h; exact congrArg _ (congrArg _ (Word.ofBytes_bytes _)))

namespace Machine

/-- The encodings of a mnemonic are its row of the table. -/
theorem encodedAs_forms (mn : Mnemonic) : EncodedAs mn mn.forms := by
  constructor
  · intro i o h
    have hw : i.wellFormed = true := by
      cases i <;> rfl
    rw [Instr.wellFormed, h] at hw
    obtain ⟨op, hop⟩ := Option.isSome_iff_exists.mp hw
    exact ⟨op, Mnemonic.mem_forms.mpr hop, encode_documented h hop⟩
  · intro o op h
    have hop := Mnemonic.mem_forms.mp h
    have hs := decodeOp_of_opcode hop
    exact ⟨_, hs, encode_documented hs hop⟩

end Machine

end Sys2Proof
end

