-- ==== Sys2Proof/Laws/Flags.lean ====
section
/-!
SUPPORT. The laws of the status register's flags: what a flag reads after one is written, after
SetZN, and in a pushed or restored status byte; and what the adder and the comparator answer.
-/

namespace Sys2Proof.Machine

/-- Two different flags have two different bits. -/
theorem Flag.bit_inj {f g : Flag} : f.bit = g.bit ↔ f = g := by
  cases f <;> cases g <;> decide

theorem Flag.bit_lt (f : Flag) : f.bit < 8 := by cases f <;> decide

theorem Flag.getLsbD_mask (f g : Flag) : f.mask.getLsbD g.bit = decide (g = f) := by
  cases f <;> cases g <;> decide

/-- Writing one flag changes that flag and no other. -/
@[simp] theorem getFlag_setFlag (p : Byte) (f g : Flag) (on : Bool) :
    getFlag (setFlag p f on) g = if g = f then on else getFlag p g := by
  cases on <;> cases f <;> cases g <;> simp [getFlag, setFlag, Flag.mask, Flag.bit]

@[simp] theorem getFlag_setZN (r p : Byte) (g : Flag) :
    getFlag (setZN r p) g = if g = .n then r.msb else if g = .z then r == 0 else getFlag p g := by
  simp [setZN]

/-- Two status bytes with the same eight flags are the same. -/
theorem status_ext {p q : Byte} (h : ∀ f, getFlag p f = getFlag q f) : p = q := by
  apply BitVec.eq_of_getLsbD_eq
  intro k hk
  have all : getFlag p .c = getFlag q .c ∧ getFlag p .z = getFlag q .z ∧ getFlag p .i = getFlag q .i ∧
      getFlag p .d = getFlag q .d ∧ getFlag p .b = getFlag q .b ∧ getFlag p .u = getFlag q .u ∧
      getFlag p .v = getFlag q .v ∧ getFlag p .n = getFlag q .n :=
    ⟨h .c, h .z, h .i, h .d, h .b, h .u, h .v, h .n⟩
  simp only [getFlag, Flag.bit] at all
  obtain ⟨h0, h1, h2, h3, h4, h5, h6, h7⟩ := all
  interval_cases k <;> assumption

/-- A pushed status byte has Break and Unused set and every other flag of P. -/
@[simp] theorem getFlag_pushedStatus (p : Byte) (g : Flag) :
    getFlag (pushedStatus p) g = if g = .b ∨ g = .u then true else getFlag p g := by
  cases g <;> simp [getFlag, pushedStatus, Flag.bit]

/-- A restored status has Break clear, Unused set and every other flag of the pulled byte. -/
@[simp] theorem getFlag_restoredStatus (v : Byte) (g : Flag) :
    getFlag (restoredStatus v) g = if g = .u then true else if g = .b then false else getFlag v g := by
  cases g <;> simp [getFlag, restoredStatus, Flag.bit]

/-- The adder's byte. -/
theorem addWithCarry_value (a m p : Byte) :
    (addWithCarry a m p).1 = BitVec.ofNat 8 (a.toNat + m.toNat + (getFlag p .c).toNat) := rfl

/-- The adder's flags: C, V, Z and N are written, the others kept. -/
theorem getFlag_addWithCarry (a m p : Byte) (g : Flag) :
    let r := (addWithCarry a m p).1
    getFlag (addWithCarry a m p).2 g =
      match g with
      | .c => decide (a.toNat + m.toNat + (getFlag p .c).toNat > 0xFF)
      | .v => (~~~(a ^^^ m) &&& (a ^^^ r) &&& 0x80#8) != 0
      | .z => r == 0
      | .n => r.msb
      | g => getFlag p g := by
  cases g <;> simp [addWithCarry]

/-- The comparator's flags: C, Z and N are written, the others kept. -/
theorem getFlag_compareStatus (r m p : Byte) (g : Flag) :
    getFlag (compareStatus r m p) g =
      match g with
      | .c => decide (r.toNat ≥ m.toNat)
      | .z => r - m == 0
      | .n => (r - m).msb
      | g => getFlag p g := by
  cases g <;> simp [compareStatus]

/-- BIT's flags: Z, N and V are written, the others kept. -/
theorem getFlag_bitStatus (a m p : Byte) (g : Flag) :
    getFlag (bitStatus a m p) g =
      match g with
      | .z => a &&& m == 0
      | .n => m.getLsbD 7
      | .v => m.getLsbD 6
      | g => getFlag p g := by
  cases g <;> simp [bitStatus]

/-- The flags after a shift or rotate: C, Z and N are written, the others kept. -/
theorem getFlag_shiftStatus (out : Byte × Bool) (p : Byte) (g : Flag) :
    getFlag (shiftStatus out p) g =
      match g with
      | .c => out.2
      | .z => out.1 == 0
      | .n => out.1.msb
      | g => getFlag p g := by
  cases g <;> simp [shiftStatus]

end Sys2Proof.Machine
end

