-- ==== Sys2Proof/Laws/Memory.lean ====
section
/-!
SUPPORT. The laws of the memory image: a read after a write, every operation keeps the canonical
form, and two images in canonical form that hold the same bytes are the same data.
-/

namespace Sys2Proof.Machine

/-! ## Lookup -/

theorem Memory.lookup_insert (m : Memory) (a b : Nat) (v : Byte)
    (h : ∀ cell ∈ m, cell.1 ≠ a) :
    Memory.lookup (Memory.insert m a v) b = if b = a then v else Memory.lookup m b := by
  induction m with
  | nil => simp [Memory.insert, Memory.lookup, eq_comm]
  | cons cell rest ih =>
    obtain ⟨k, w⟩ := cell
    have hk : k ≠ a := h (k, w) (by simp)
    have ih := ih fun cell hc => h cell (by simp [hc])
    by_cases hlt : a < k
    · simp only [Memory.insert, hlt, if_true, Memory.lookup]
      by_cases hb : a = b
      · simp [hb]
      · simp [hb, Ne.symm hb]
    · simp only [Memory.insert, hlt, if_false, Memory.lookup, ih]
      by_cases hb : k = b
      · subst hb; simp [hk]
      · simp [hb]

theorem Memory.lookup_filter (m : Memory) (a b : Nat) :
    Memory.lookup (m.filter fun cell => cell.1 != a) b =
      if b = a then Config.clearedByte else Memory.lookup m b := by
  induction m with
  | nil => simp [Memory.lookup]
  | cons cell rest ih =>
    obtain ⟨k, w⟩ := cell
    by_cases hk : k = a
    · subst hk
      simp only [bne_self_eq_false, Bool.false_eq_true, not_false_eq_true, List.filter_cons_of_neg, ih,
        Memory.lookup]
      by_cases hb : b = k
      · simp [hb]
      · simp [hb, Ne.symm hb]
    · have : (k != a) = true := by simp [hk]
      simp only [this, List.filter_cons_of_pos, Memory.lookup, ih]
      by_cases hb : k = b
      · subst hb; simp [hk]
      · simp [hb]

/-- What an address reads after a write: the byte written there, elsewhere what it read before. -/
@[simp] theorem Memory.read_write (m : Memory) (a b : Word) (v : Byte) :
    (m.write a v).read b = if b = a then v else m.read b := by
  have hfree : ∀ cell ∈ m.filter (fun cell => cell.1 != a.toNat), cell.1 ≠ a.toNat := by
    intro cell hc; simpa using (List.mem_filter.mp hc).2
  have hab : b.toNat = a.toNat ↔ b = a := BitVec.toNat_inj
  unfold Memory.read Memory.write
  split
  · next hv => rw [Memory.lookup_filter]; simp only [hab]; split <;> simp_all
  · rw [Memory.lookup_insert _ _ _ _ hfree, Memory.lookup_filter]; simp only [hab]; split <;> simp_all

/-! ## The canonical form -/

theorem Memory.wf_cons (a : Nat) (v : Byte) (rest : Memory) :
    Memory.wf ((a, v) :: rest) = true ↔
      a < 65536 ∧ v ≠ Config.clearedByte ∧ (∀ cell ∈ rest, a < cell.1) ∧ Memory.wf rest = true := by
  simp [Memory.wf, and_assoc]

theorem Memory.wf_filter (m : Memory) (q : Host.Cell → Bool) (h : m.wf = true) :
    Memory.wf (m.filter q) = true := by
  induction m with
  | nil => rfl
  | cons cell rest ih =>
    obtain ⟨k, w⟩ := cell
    obtain ⟨hk, hw, hall, hrest⟩ := (Memory.wf_cons k w rest).mp h
    by_cases hq : q (k, w) = true
    · rw [List.filter_cons_of_pos hq]
      exact (Memory.wf_cons _ _ _).mpr ⟨hk, hw, fun c hc => hall c (List.mem_filter.mp hc).1, ih hrest⟩
    · rw [List.filter_cons_of_neg hq]; exact ih hrest

theorem Memory.mem_insert (m : Memory) (a : Nat) (v : Byte) (cell : Host.Cell)
    (h : cell ∈ Memory.insert m a v) : cell = (a, v) ∨ cell ∈ m := by
  induction m with
  | nil => simpa [Memory.insert] using h
  | cons head rest ih =>
    obtain ⟨k, w⟩ := head
    by_cases hlt : a < k
    · simpa [Memory.insert, hlt] using h
    · simp only [Memory.insert, hlt, if_false, List.mem_cons] at h
      rcases h with h | h
      · simp [h]
      · rcases ih h with h | h <;> simp [h]

theorem Memory.wf_insert (m : Memory) (a : Nat) (v : Byte) (h : m.wf = true) (ha : a < 65536)
    (hv : v ≠ Config.clearedByte) (hfree : ∀ cell ∈ m, cell.1 ≠ a) :
    (Memory.insert m a v).wf = true := by
  induction m with
  | nil => exact (Memory.wf_cons a v []).mpr ⟨ha, hv, by simp, rfl⟩
  | cons head rest ih =>
    obtain ⟨k, w⟩ := head
    obtain ⟨hk, hw, hall, hrest⟩ := (Memory.wf_cons k w rest).mp h
    by_cases hlt : a < k
    · simp only [Memory.insert, hlt, if_true]
      refine (Memory.wf_cons _ _ _).mpr ⟨ha, hv, ?_, h⟩
      intro c hc
      rcases List.mem_cons.mp hc with rfl | hc
      · exact hlt
      · exact lt_trans hlt (hall c hc)
    · simp only [Memory.insert, hlt, if_false]
      refine (Memory.wf_cons _ _ _).mpr ⟨hk, hw, ?_, ih hrest fun c hc => hfree c (by simp [hc])⟩
      intro c hc
      rcases Memory.mem_insert _ _ _ _ hc with rfl | hc
      · have := hfree (k, w) (by simp); simp only at this ⊢; omega
      · exact hall c hc

/-- A write keeps the canonical form. -/
theorem Memory.wf_write (m : Memory) (a : Word) (v : Byte) (h : m.wf = true) :
    (m.write a v).wf = true := by
  unfold Memory.write
  split
  · exact Memory.wf_filter m _ h
  · next hv =>
    refine Memory.wf_insert _ _ _ (Memory.wf_filter m _ h) (by simpa using a.isLt) hv ?_
    intro cell hc; simpa using (List.mem_filter.mp hc).2

/-- Storing several bytes keeps the canonical form. -/
theorem Memory.wf_writeBytes (code : List Byte) (m : Memory) (a : Word) (h : m.wf = true) :
    (m.writeBytes a code).wf = true := by
  induction code generalizing m a with
  | nil => exact h
  | cons v vs ih => exact ih _ _ (Memory.wf_write m a v h)

/-- The image the loader leaves is in canonical form. -/
theorem loadedImage_wf (code : List Byte) (start : Word) : (loadedImage code start).wf = true :=
  Memory.wf_writeBytes _ _ _ (Memory.wf_write _ _ _ (Memory.wf_write _ _ _ rfl))

theorem reset_mem_wf : State.reset.mem.wf = true := rfl

/-! ## Equal memories are equal data -/

theorem Memory.lookup_of_lt (m : Memory) (a : Nat) (h : ∀ cell ∈ m, a < cell.1) :
    Memory.lookup m a = Config.clearedByte := by
  induction m with
  | nil => rfl
  | cons head rest ih =>
    obtain ⟨k, w⟩ := head
    have hk : a < k := h (k, w) (by simp)
    simp only [Memory.lookup, (ne_of_lt hk).symm, if_false]
    exact ih fun c hc => h c (by simp [hc])

theorem Memory.lookup_ext (m n : Memory) (hm : m.wf = true) (hn : n.wf = true)
    (h : ∀ a, a < 65536 → Memory.lookup m a = Memory.lookup n a) : m = n := by
  induction m generalizing n with
  | nil =>
    cases n with
    | nil => rfl
    | cons head rest =>
      obtain ⟨k, w⟩ := head
      obtain ⟨hk, hw, -, -⟩ := (Memory.wf_cons k w rest).mp hn
      have := h k hk
      simp [Memory.lookup] at this
      exact absurd this.symm hw
  | cons head rest ih =>
    obtain ⟨k, w⟩ := head
    obtain ⟨hk, hw, hall, hrest⟩ := (Memory.wf_cons k w rest).mp hm
    cases n with
    | nil =>
      have := h k hk
      simp [Memory.lookup] at this
      exact absurd this hw
    | cons head' rest' =>
      obtain ⟨k', w'⟩ := head'
      obtain ⟨hk', hw', hall', hrest'⟩ := (Memory.wf_cons k' w' rest').mp hn
      have hkk : k = k' := by
        rcases lt_trichotomy k k' with hlt | heq | hlt
        · exfalso; apply hw
          have := h k hk
          rw [Memory.lookup_of_lt ((k', w') :: rest') k] at this
          · simpa [Memory.lookup] using this
          · intro c hc
            rcases List.mem_cons.mp hc with rfl | hc
            · exact hlt
            · exact lt_trans hlt (hall' c hc)
        · exact heq
        · exfalso; apply hw'
          have := h k' hk'
          rw [Memory.lookup_of_lt ((k, w) :: rest) k'] at this
          · simpa [Memory.lookup] using this.symm
          · intro c hc
            rcases List.mem_cons.mp hc with rfl | hc
            · exact hlt
            · exact lt_trans hlt (hall c hc)
      subst hkk
      have hww : w = w' := by simpa [Memory.lookup] using h k hk
      subst hww
      congr 1
      refine ih rest' hrest hrest' fun a ha => ?_
      by_cases hka : k = a
      · subst hka
        rw [Memory.lookup_of_lt rest k hall, Memory.lookup_of_lt rest' k hall']
      · simpa [Memory.lookup, hka] using h a ha

/-- Two images in canonical form that hold the same bytes are the same. -/
theorem Memory.read_ext (m n : Memory) (hm : m.wf = true) (hn : n.wf = true)
    (h : ∀ a : Word, m.read a = n.read a) : m = n :=
  Memory.lookup_ext m n hm hn fun a ha => by
    simpa [Memory.read, Nat.mod_eq_of_lt ha] using h (BitVec.ofNat 16 a)

end Sys2Proof.Machine
end

