-- ==== Sys2Proof/Laws/State.lean ====
section
/-!
SUPPORT. What each register write leaves in each field of the state: one lemma per field per
update, so that no later proof unfolds a record update.
-/

namespace Sys2Proof.Machine

@[simp] theorem State.setA_a (s : State) (v : Byte) : (s.setA v).a = v := rfl
@[simp] theorem State.setA_x (s : State) (v : Byte) : (s.setA v).x = s.x := rfl
@[simp] theorem State.setA_y (s : State) (v : Byte) : (s.setA v).y = s.y := rfl
@[simp] theorem State.setA_sp (s : State) (v : Byte) : (s.setA v).sp = s.sp := rfl
@[simp] theorem State.setA_pc (s : State) (v : Byte) : (s.setA v).pc = s.pc := rfl
@[simp] theorem State.setA_p (s : State) (v : Byte) : (s.setA v).p = s.p := rfl
@[simp] theorem State.setA_mem (s : State) (v : Byte) : (s.setA v).mem = s.mem := rfl
@[simp] theorem State.setA_console (s : State) (v : Byte) : (s.setA v).console = s.console := rfl

@[simp] theorem State.setX_a (s : State) (v : Byte) : (s.setX v).a = s.a := rfl
@[simp] theorem State.setX_x (s : State) (v : Byte) : (s.setX v).x = v := rfl
@[simp] theorem State.setX_y (s : State) (v : Byte) : (s.setX v).y = s.y := rfl
@[simp] theorem State.setX_sp (s : State) (v : Byte) : (s.setX v).sp = s.sp := rfl
@[simp] theorem State.setX_pc (s : State) (v : Byte) : (s.setX v).pc = s.pc := rfl
@[simp] theorem State.setX_p (s : State) (v : Byte) : (s.setX v).p = s.p := rfl
@[simp] theorem State.setX_mem (s : State) (v : Byte) : (s.setX v).mem = s.mem := rfl
@[simp] theorem State.setX_console (s : State) (v : Byte) : (s.setX v).console = s.console := rfl

@[simp] theorem State.setY_a (s : State) (v : Byte) : (s.setY v).a = s.a := rfl
@[simp] theorem State.setY_x (s : State) (v : Byte) : (s.setY v).x = s.x := rfl
@[simp] theorem State.setY_y (s : State) (v : Byte) : (s.setY v).y = v := rfl
@[simp] theorem State.setY_sp (s : State) (v : Byte) : (s.setY v).sp = s.sp := rfl
@[simp] theorem State.setY_pc (s : State) (v : Byte) : (s.setY v).pc = s.pc := rfl
@[simp] theorem State.setY_p (s : State) (v : Byte) : (s.setY v).p = s.p := rfl
@[simp] theorem State.setY_mem (s : State) (v : Byte) : (s.setY v).mem = s.mem := rfl
@[simp] theorem State.setY_console (s : State) (v : Byte) : (s.setY v).console = s.console := rfl

@[simp] theorem State.setSp_a (s : State) (v : Byte) : (s.setSp v).a = s.a := rfl
@[simp] theorem State.setSp_x (s : State) (v : Byte) : (s.setSp v).x = s.x := rfl
@[simp] theorem State.setSp_y (s : State) (v : Byte) : (s.setSp v).y = s.y := rfl
@[simp] theorem State.setSp_sp (s : State) (v : Byte) : (s.setSp v).sp = v := rfl
@[simp] theorem State.setSp_pc (s : State) (v : Byte) : (s.setSp v).pc = s.pc := rfl
@[simp] theorem State.setSp_p (s : State) (v : Byte) : (s.setSp v).p = s.p := rfl
@[simp] theorem State.setSp_mem (s : State) (v : Byte) : (s.setSp v).mem = s.mem := rfl
@[simp] theorem State.setSp_console (s : State) (v : Byte) : (s.setSp v).console = s.console := rfl

@[simp] theorem State.setPc_a (s : State) (v : Word) : (s.setPc v).a = s.a := rfl
@[simp] theorem State.setPc_x (s : State) (v : Word) : (s.setPc v).x = s.x := rfl
@[simp] theorem State.setPc_y (s : State) (v : Word) : (s.setPc v).y = s.y := rfl
@[simp] theorem State.setPc_sp (s : State) (v : Word) : (s.setPc v).sp = s.sp := rfl
@[simp] theorem State.setPc_pc (s : State) (v : Word) : (s.setPc v).pc = v := rfl
@[simp] theorem State.setPc_p (s : State) (v : Word) : (s.setPc v).p = s.p := rfl
@[simp] theorem State.setPc_mem (s : State) (v : Word) : (s.setPc v).mem = s.mem := rfl
@[simp] theorem State.setPc_console (s : State) (v : Word) : (s.setPc v).console = s.console := rfl

@[simp] theorem State.setP_a (s : State) (v : Byte) : (s.setP v).a = s.a := rfl
@[simp] theorem State.setP_x (s : State) (v : Byte) : (s.setP v).x = s.x := rfl
@[simp] theorem State.setP_y (s : State) (v : Byte) : (s.setP v).y = s.y := rfl
@[simp] theorem State.setP_sp (s : State) (v : Byte) : (s.setP v).sp = s.sp := rfl
@[simp] theorem State.setP_pc (s : State) (v : Byte) : (s.setP v).pc = s.pc := rfl
@[simp] theorem State.setP_p (s : State) (v : Byte) : (s.setP v).p = v := rfl
@[simp] theorem State.setP_mem (s : State) (v : Byte) : (s.setP v).mem = s.mem := rfl
@[simp] theorem State.setP_console (s : State) (v : Byte) : (s.setP v).console = s.console := rfl

@[simp] theorem State.setMem_a (s : State) (v : Memory) : (s.setMem v).a = s.a := rfl
@[simp] theorem State.setMem_x (s : State) (v : Memory) : (s.setMem v).x = s.x := rfl
@[simp] theorem State.setMem_y (s : State) (v : Memory) : (s.setMem v).y = s.y := rfl
@[simp] theorem State.setMem_sp (s : State) (v : Memory) : (s.setMem v).sp = s.sp := rfl
@[simp] theorem State.setMem_pc (s : State) (v : Memory) : (s.setMem v).pc = s.pc := rfl
@[simp] theorem State.setMem_p (s : State) (v : Memory) : (s.setMem v).p = s.p := rfl
@[simp] theorem State.setMem_mem (s : State) (v : Memory) : (s.setMem v).mem = v := rfl
@[simp] theorem State.setMem_console (s : State) (v : Memory) : (s.setMem v).console = s.console := rfl

@[simp] theorem State.emit_a (s : State) (v : Byte) : (s.emit v).a = s.a := rfl
@[simp] theorem State.emit_x (s : State) (v : Byte) : (s.emit v).x = s.x := rfl
@[simp] theorem State.emit_y (s : State) (v : Byte) : (s.emit v).y = s.y := rfl
@[simp] theorem State.emit_sp (s : State) (v : Byte) : (s.emit v).sp = s.sp := rfl
@[simp] theorem State.emit_pc (s : State) (v : Byte) : (s.emit v).pc = s.pc := rfl
@[simp] theorem State.emit_p (s : State) (v : Byte) : (s.emit v).p = s.p := rfl
@[simp] theorem State.emit_mem (s : State) (v : Byte) : (s.emit v).mem = s.mem := rfl
@[simp] theorem State.emit_console (s : State) (v : Byte) : (s.emit v).console = s.console ++ [v] := rfl

@[simp] theorem State.setFlag_a (s : State) (g : Flag) (on : Bool) : (s.setFlag g on).a = s.a := rfl
@[simp] theorem State.setFlag_x (s : State) (g : Flag) (on : Bool) : (s.setFlag g on).x = s.x := rfl
@[simp] theorem State.setFlag_y (s : State) (g : Flag) (on : Bool) : (s.setFlag g on).y = s.y := rfl
@[simp] theorem State.setFlag_sp (s : State) (g : Flag) (on : Bool) : (s.setFlag g on).sp = s.sp := rfl
@[simp] theorem State.setFlag_pc (s : State) (g : Flag) (on : Bool) : (s.setFlag g on).pc = s.pc := rfl
@[simp] theorem State.setFlag_p (s : State) (g : Flag) (on : Bool) : (s.setFlag g on).p = Machine.setFlag s.p g on := rfl
@[simp] theorem State.setFlag_mem (s : State) (g : Flag) (on : Bool) : (s.setFlag g on).mem = s.mem := rfl
@[simp] theorem State.setFlag_console (s : State) (g : Flag) (on : Bool) : (s.setFlag g on).console = s.console := rfl

@[simp] theorem State.setZN_a (s : State) (r : Byte) : (s.setZN r).a = s.a := rfl
@[simp] theorem State.setZN_x (s : State) (r : Byte) : (s.setZN r).x = s.x := rfl
@[simp] theorem State.setZN_y (s : State) (r : Byte) : (s.setZN r).y = s.y := rfl
@[simp] theorem State.setZN_sp (s : State) (r : Byte) : (s.setZN r).sp = s.sp := rfl
@[simp] theorem State.setZN_pc (s : State) (r : Byte) : (s.setZN r).pc = s.pc := rfl
@[simp] theorem State.setZN_p (s : State) (r : Byte) : (s.setZN r).p = Machine.setZN r s.p := rfl
@[simp] theorem State.setZN_mem (s : State) (r : Byte) : (s.setZN r).mem = s.mem := rfl
@[simp] theorem State.setZN_console (s : State) (r : Byte) : (s.setZN r).console = s.console := rfl

@[simp] theorem State.passInstr_a (s : State) (i : Instr) : (s.passInstr i).a = s.a := rfl
@[simp] theorem State.passInstr_x (s : State) (i : Instr) : (s.passInstr i).x = s.x := rfl
@[simp] theorem State.passInstr_y (s : State) (i : Instr) : (s.passInstr i).y = s.y := rfl
@[simp] theorem State.passInstr_sp (s : State) (i : Instr) : (s.passInstr i).sp = s.sp := rfl
@[simp] theorem State.passInstr_pc (s : State) (i : Instr) : (s.passInstr i).pc = s.pc + BitVec.ofNat 16 i.length := rfl
@[simp] theorem State.passInstr_p (s : State) (i : Instr) : (s.passInstr i).p = s.p := rfl
@[simp] theorem State.passInstr_mem (s : State) (i : Instr) : (s.passInstr i).mem = s.mem := rfl
@[simp] theorem State.passInstr_console (s : State) (i : Instr) : (s.passInstr i).console = s.console := rfl

end Sys2Proof.Machine
end

