-- ==== Sys2Proof/Laws/Ops.lean ====
section
/-!
SUPPORT. What each shared operation can do, said once: the gates, the stack, the trap and its
return, reset and the placing of code.
-/

namespace Sys2Proof.Machine

/-! ## The read gate -/

theorem State.readByte_port (s : State) : s.readByte Config.consolePort = 0x00#8 := rfl

theorem State.readByte_of_ne (s : State) {b : Word} (h : b ≠ Config.consolePort) :
    s.readByte b = s.mem.read b := by
  simp [State.readByte, h]

@[simp] theorem State.readByte_setA (s : State) (v : Byte) (b : Word) : (s.setA v).readByte b = s.readByte b := rfl
@[simp] theorem State.readByte_setX (s : State) (v : Byte) (b : Word) : (s.setX v).readByte b = s.readByte b := rfl
@[simp] theorem State.readByte_setY (s : State) (v : Byte) (b : Word) : (s.setY v).readByte b = s.readByte b := rfl
@[simp] theorem State.readByte_setSp (s : State) (v : Byte) (b : Word) : (s.setSp v).readByte b = s.readByte b := rfl
@[simp] theorem State.readByte_setPc (s : State) (v : Word) (b : Word) : (s.setPc v).readByte b = s.readByte b := rfl
@[simp] theorem State.readByte_setP (s : State) (v : Byte) (b : Word) : (s.setP v).readByte b = s.readByte b := rfl
@[simp] theorem State.readByte_emit (s : State) (v : Byte) (b : Word) : (s.emit v).readByte b = s.readByte b := rfl

@[simp] theorem State.readByte_setFlag (s : State) (f : Flag) (on : Bool) (b : Word) :
    (s.setFlag f on).readByte b = s.readByte b := rfl

@[simp] theorem State.readByte_setZN (s : State) (r : Byte) (b : Word) :
    (s.setZN r).readByte b = s.readByte b := rfl

/-- Two states with the same memory image read the same bytes. -/
theorem State.readByte_congr {s t : State} (h : s.mem = t.mem) (b : Word) :
    s.readByte b = t.readByte b := by
  simp [State.readByte, h]

/-! ## The write gate -/

@[simp] theorem State.writeByte_a (s : State) (b : Word) (v : Byte) : (s.writeByte b v).a = s.a := by
  unfold State.writeByte; split <;> rfl

@[simp] theorem State.writeByte_x (s : State) (b : Word) (v : Byte) : (s.writeByte b v).x = s.x := by
  unfold State.writeByte; split <;> rfl

@[simp] theorem State.writeByte_y (s : State) (b : Word) (v : Byte) : (s.writeByte b v).y = s.y := by
  unfold State.writeByte; split <;> rfl

@[simp] theorem State.writeByte_sp (s : State) (b : Word) (v : Byte) : (s.writeByte b v).sp = s.sp := by
  unfold State.writeByte; split <;> rfl

@[simp] theorem State.writeByte_pc (s : State) (b : Word) (v : Byte) : (s.writeByte b v).pc = s.pc := by
  unfold State.writeByte; split <;> rfl

@[simp] theorem State.writeByte_p (s : State) (b : Word) (v : Byte) : (s.writeByte b v).p = s.p := by
  unfold State.writeByte; split <;> rfl

@[simp] theorem State.writeByte_mem (s : State) (b : Word) (v : Byte) :
    (s.writeByte b v).mem = s.mem.write b v := by
  unfold State.writeByte; split <;> rfl

theorem State.writeByte_console (s : State) (b : Word) (v : Byte) :
    (s.writeByte b v).console = if b = Config.consolePort then s.console ++ [v] else s.console := by
  unfold State.writeByte; split <;> rfl

/-- What a read answers after a write: the port 0x00, the written address the byte, every other
address what it answered before. -/
theorem State.readByte_writeByte (s : State) (b c : Word) (v : Byte) :
    (s.writeByte b v).readByte c =
      if c = Config.consolePort then 0x00#8 else if c = b then v else s.readByte c := by
  by_cases hc : c = Config.consolePort
  · simp [State.readByte, hc, Config.consoleReadValue]
  · simp [State.readByte, hc]

theorem State.writeByte_mem_wf (s : State) (b : Word) (v : Byte) (h : s.mem.wf = true) :
    (s.writeByte b v).mem.wf = true := by
  simpa using Memory.wf_write s.mem b v h

/-! ## The stack -/

theorem stackAddress_toNat (sp : Byte) : (stackAddress sp).toNat = 0x0100 + sp.toNat := by
  have := sp.isLt
  simp only [stackAddress, Config.stackBase, BitVec.toNat_add, BitVec.toNat_setWidth,
    BitVec.toNat_ofNat]
  omega

/-- No stack access reaches the console port. -/
@[simp] theorem stackAddress_ne_port (sp : Byte) : stackAddress sp ≠ Config.consolePort := by
  intro h
  have h2 := stackAddress_toNat sp
  have h3 : Config.consolePort.toNat = 0xF001 := rfl
  have := sp.isLt
  rw [h, h3] at h2
  omega

@[simp] theorem stackAddress_inj {i j : Byte} : stackAddress i = stackAddress j ↔ i = j := by
  constructor
  · intro h
    have h2 := congrArg BitVec.toNat h
    rw [stackAddress_toNat, stackAddress_toNat] at h2
    exact BitVec.eq_of_toNat_eq (by omega)
  · rintro rfl; rfl

@[simp] theorem State.push8_a (s : State) (v : Byte) : (s.push8 v).a = s.a := by
  simp [State.push8]

@[simp] theorem State.push8_x (s : State) (v : Byte) : (s.push8 v).x = s.x := by
  simp [State.push8]

@[simp] theorem State.push8_y (s : State) (v : Byte) : (s.push8 v).y = s.y := by
  simp [State.push8]

@[simp] theorem State.push8_pc (s : State) (v : Byte) : (s.push8 v).pc = s.pc := by
  simp [State.push8]

@[simp] theorem State.push8_p (s : State) (v : Byte) : (s.push8 v).p = s.p := by
  simp [State.push8]

@[simp] theorem State.push8_sp (s : State) (v : Byte) : (s.push8 v).sp = s.sp - 1 := rfl

@[simp] theorem State.push8_mem (s : State) (v : Byte) :
    (s.push8 v).mem = s.mem.write (stackAddress s.sp) v := by
  simp [State.push8]

@[simp] theorem State.push8_console (s : State) (v : Byte) : (s.push8 v).console = s.console := by
  simp [State.push8, State.writeByte_console]

@[simp] theorem State.push16_a (s : State) (w : Word) : (s.push16 w).a = s.a := by
  simp [State.push16]

@[simp] theorem State.push16_x (s : State) (w : Word) : (s.push16 w).x = s.x := by
  simp [State.push16]

@[simp] theorem State.push16_y (s : State) (w : Word) : (s.push16 w).y = s.y := by
  simp [State.push16]

@[simp] theorem State.push16_pc (s : State) (w : Word) : (s.push16 w).pc = s.pc := by
  simp [State.push16]

@[simp] theorem State.push16_p (s : State) (w : Word) : (s.push16 w).p = s.p := by
  simp [State.push16]

@[simp] theorem State.push16_console (s : State) (w : Word) : (s.push16 w).console = s.console := by
  simp [State.push16]

@[simp] theorem State.push16_sp (s : State) (w : Word) : (s.push16 w).sp = s.sp - 1 - 1 := rfl

@[simp] theorem State.push16_mem (s : State) (w : Word) :
    (s.push16 w).mem =
      (s.mem.write (stackAddress s.sp) w.highByte).write (stackAddress (s.sp - 1)) w.lowByte := by
  simp [State.push16]

/-- A pull reads the byte above the one SP names, and changes SP only. -/
theorem State.pull8_eq (s : State) :
    s.pull8 = (s.mem.read (stackAddress (s.sp + 1)), s.setSp (s.sp + 1)) := by
  simp [State.pull8, State.readByte_of_ne]

/-- A 16-bit pull reads the two bytes above the one SP names, the low one first. -/
theorem State.pull16_eq (s : State) :
    s.pull16 =
      (Word.ofBytes (s.mem.read (stackAddress (s.sp + 1 + 1))) (s.mem.read (stackAddress (s.sp + 1))),
        (s.setSp (s.sp + 1)).setSp (s.sp + 1 + 1)) := by
  simp [State.pull16, State.pull8_eq]

/-! ## The trap and its return -/

/-- The image after a trap entry: the return address and the status byte on the stack. -/
theorem State.enterTrap_mem (s : State) (w vector : Word) :
    (s.enterTrap w vector).mem =
      ((s.mem.write (stackAddress s.sp) w.highByte).write (stackAddress (s.sp - 1)) w.lowByte).write
        (stackAddress (s.sp - 1 - 1)) (pushedStatus s.p) := by
  simp [State.enterTrap]

/-- What a trap entry leaves in the registers, for a vector that no push reaches. -/
theorem State.enterTrap_registers (s : State) (w vector : Word)
    (h : ∀ sp, stackAddress sp ≠ vector ∧ stackAddress sp ≠ vector + 1#16) :
    (s.enterTrap w vector).a = s.a ∧ (s.enterTrap w vector).x = s.x ∧
    (s.enterTrap w vector).y = s.y ∧ (s.enterTrap w vector).sp = s.sp - 1 - 1 - 1 ∧
    (s.enterTrap w vector).p = Machine.setFlag s.p .i true ∧
    (s.enterTrap w vector).pc = s.read16 vector ∧
    (s.enterTrap w vector).console = s.console := by
  refine ⟨by simp [State.enterTrap], by simp [State.enterTrap], by simp [State.enterTrap],
    by simp [State.enterTrap], by simp [State.enterTrap], ?_, by simp [State.enterTrap]⟩
  have h0 : ∀ sp, vector ≠ stackAddress sp := fun sp => (h sp).1.symm
  have h1 : ∀ sp, vector + 1#16 ≠ stackAddress sp := fun sp => (h sp).2.symm
  simp [State.enterTrap, State.read16, State.readByte, h0, h1]

/-- What a return from a trap leaves in the state. -/
theorem State.returnFromTrap_eq (s : State) :
    s.returnFromTrap =
      { s with
        p := restoredStatus (s.mem.read (stackAddress (s.sp + 1)))
        sp := s.sp + 1 + 1 + 1
        pc := Word.ofBytes (s.mem.read (stackAddress (s.sp + 1 + 1 + 1)))
          (s.mem.read (stackAddress (s.sp + 1 + 1))) } := by
  simp [State.returnFromTrap, State.pull8_eq, State.pull16_eq, State.setPc, State.setSp, State.setP]

/-! ## Reset and the placing of code -/

/-- `State.reset` is `reset()` on a cleared image. -/
theorem State.resetEngine_cleared (s : State) (hm : s.mem = []) (hc : s.console = []) :
    s.resetEngine = State.reset := by
  simp [State.resetEngine, State.read16, State.readByte, hm, hc]
  rfl

/-- The bytes placed where the next step fetches are the instruction it fetches. -/
theorem State.fetch_placeCode (s : State) (b0 b1 b2 : Byte) :
    (s.placeCode [b0, b1, b2]).fetch = decodeOp b0 b1 b2 := by
  have key : ∀ t : State, fetchWindowFree t.pc = true →
      (t.setMem (t.mem.writeBytes t.pc [b0, b1, b2])).fetch = decodeOp b0 b1 b2 := by
    intro t h
    simp only [fetchWindowFree, Bool.and_eq_true, bne_iff_ne, ne_eq] at h
    obtain ⟨⟨h0, h1⟩, h2⟩ := h
    have n1 : ¬t.pc = t.pc + 1#16 := by bv_omega
    have n2 : ¬t.pc = t.pc + 1#16 + 1#16 := by bv_omega
    have n3 : ¬t.pc + 1#16 = t.pc + 1#16 + 1#16 := by bv_omega
    have e2 : t.pc + 2#16 = t.pc + 1#16 + 1#16 := by bv_omega
    have h1' : ¬t.pc + 1#16 = Config.consolePort := h1
    have h2' : ¬t.pc + 1#16 + 1#16 = Config.consolePort := by rw [← e2]; exact h2
    simp [State.fetch, State.codeByte, State.readByte, Memory.writeBytes, h0, h1', h2', e2, n1, n2, n3]
  unfold State.placeCode
  split
  · next h => exact key s h
  · exact key _ (rfl : fetchWindowFree 0x0000#16 = true)

end Sys2Proof.Machine
end

