-- ==== Sys2Proof/Laws/Step.lean ====
section
/-!
SUPPORT. What a step is made of, for the proofs about the machine: the fetch, the advance of PC and
the operation.
-/

namespace Sys2Proof.Machine

theorem step_eq (s : State) : step s = exec s.fetch (s.passInstr s.fetch) := rfl

/-- The fetch depends on PC and the memory image only. -/
theorem State.fetch_congr {s t : State} (hpc : s.pc = t.pc) (hmem : s.mem = t.mem) :
    s.fetch = t.fetch := by
  simp [State.fetch, State.codeByte, hpc, State.readByte_congr hmem]

/-- A word of the opcode table, stored where the next step fetches, is what that step fetches. -/
theorem State.fetch_withFetchWord (s : State) (nbits w : Nat) :
    (s.withFetchWord nbits w).fetch =
      decodeOp (BitVec.ofNat 8 (w % 2 ^ nbits)) (BitVec.ofNat 8 (w % 2 ^ nbits / 256))
        (BitVec.ofNat 8 (w % 2 ^ nbits / 256 / 256)) :=
  State.fetch_placeCode s _ _ _

end Sys2Proof.Machine
end

