-- ==== Sys2Proof/Tests/Slice0.lean ====
section
/-!
SUPPORT. Tests. The expected results are the spec's: the encodings of 30_encoding.md R61, R76 and
R77 and of spec/opcode_table.json, and the vectors of 95_test_vectors.md (named in each docstring).
The last part gives, for each statement with hypotheses, a state and operands that meet them.
-/

namespace Sys2Proof.Tests

open Machine

/-! ## Helpers -/

/-- The base state of 95_test_vectors.md with PC at an address and code stored there. -/
def codeAt (pc : Word) (code : List Byte) : State :=
  { State.reset with pc := pc, mem := Memory.writeBytes [] pc code }

/-- The state with memory bytes stored. -/
def cells (bytes : List (Word × Byte)) (s : State) : State :=
  s.setMem (bytes.foldl (fun m c => m.write c.1 c.2) s.mem)

/-- What one step leaves, through a view of it. -/
def after {α : Type} (s : State) (view : State → α) : Option α :=
  match step s with
  | .next t => some (view t)
  | .fault _ | .refused _ => none

/-- Each list of bytes decodes to its instruction, and the byte after it is left. -/
def decodesEach (rows : List (List Byte × Instr)) : Bool :=
  rows.all fun row => match decode (row.1 ++ [0x77]) with
    | .ok (i, rest) => i == row.2 && rest == [0x77]
    | .error _ => false

/-! ## Well-formedness: the checks refuse what has no encoding (R76, R77, R78, R89) -/

theorem test_wellFormed_lda_imm : (Shape.documented .lda (.imm 0x05)).wellFormed = true := by decide
theorem test_illFormed_sta_imm : (Shape.documented .sta (.imm 0x05)).wellFormed = false := by decide
theorem test_illFormed_asl_imp : (Shape.documented .asl .imp).wellFormed = false := by decide
theorem test_illFormed_lda_acc : (Shape.documented .lda .acc).wellFormed = false := by decide
theorem test_illFormed_lda_zpy : (Shape.documented .lda (.zpy 0x10)).wellFormed = false := by decide
theorem test_illFormed_jsr_ind : (Shape.documented .jsr (.ind 0x1234)).wellFormed = false := by decide
theorem test_illFormed_jmp_rel : (Shape.documented .jmp (.rel 0x05)).wellFormed = false := by decide
theorem test_wellFormed_unassigned : (Shape.unassigned 0x02).wellFormed = true := by decide
theorem test_illFormed_unassigned_lda : (Shape.unassigned 0xA9).wellFormed = false := by decide
theorem test_illFormed_unassigned_nop : (Shape.unassigned 0xEA).wellFormed = false := by decide

/-! ## Decoding: every encoding, from the spec's tables -/

theorem test_decode_loads : decodesEach [
    ([0xA1, 0x9C], .ldaIndx 0x9C), ([0xA5, 0x9C], .ldaZp 0x9C), ([0xA9, 0x9C], .ldaImm 0x9C),
    ([0xAD, 0x34, 0x12], .ldaAbs 0x1234), ([0xB1, 0x9C], .ldaIndy 0x9C),
    ([0xB5, 0x9C], .ldaZpx 0x9C), ([0xB9, 0x34, 0x12], .ldaAbsy 0x1234),
    ([0xBD, 0x34, 0x12], .ldaAbsx 0x1234), ([0xA2, 0x9C], .ldxImm 0x9C),
    ([0xA6, 0x9C], .ldxZp 0x9C), ([0xAE, 0x34, 0x12], .ldxAbs 0x1234),
    ([0xB6, 0x9C], .ldxZpy 0x9C), ([0xBE, 0x34, 0x12], .ldxAbsy 0x1234),
    ([0xA0, 0x9C], .ldyImm 0x9C), ([0xA4, 0x9C], .ldyZp 0x9C),
    ([0xAC, 0x34, 0x12], .ldyAbs 0x1234), ([0xB4, 0x9C], .ldyZpx 0x9C),
    ([0xBC, 0x34, 0x12], .ldyAbsx 0x1234)] = true := by decide

theorem test_decode_stores : decodesEach [
    ([0x81, 0x9C], .staIndx 0x9C), ([0x85, 0x9C], .staZp 0x9C),
    ([0x8D, 0x34, 0x12], .staAbs 0x1234), ([0x91, 0x9C], .staIndy 0x9C),
    ([0x95, 0x9C], .staZpx 0x9C), ([0x99, 0x34, 0x12], .staAbsy 0x1234),
    ([0x9D, 0x34, 0x12], .staAbsx 0x1234), ([0x86, 0x9C], .stxZp 0x9C),
    ([0x8E, 0x34, 0x12], .stxAbs 0x1234), ([0x96, 0x9C], .stxZpy 0x9C),
    ([0x84, 0x9C], .styZp 0x9C), ([0x8C, 0x34, 0x12], .styAbs 0x1234),
    ([0x94, 0x9C], .styZpx 0x9C)] = true := by decide

theorem test_decode_transfers : decodesEach [
    ([0xAA], .tax), ([0xA8], .tay), ([0x8A], .txa), ([0x98], .tya), ([0xBA], .tsx),
    ([0x9A], .txs)] = true := by decide

theorem test_decode_adds : decodesEach [
    ([0x61, 0x9C], .adcIndx 0x9C), ([0x65, 0x9C], .adcZp 0x9C), ([0x69, 0x9C], .adcImm 0x9C),
    ([0x6D, 0x34, 0x12], .adcAbs 0x1234), ([0x71, 0x9C], .adcIndy 0x9C),
    ([0x75, 0x9C], .adcZpx 0x9C), ([0x79, 0x34, 0x12], .adcAbsy 0x1234),
    ([0x7D, 0x34, 0x12], .adcAbsx 0x1234), ([0xE1, 0x9C], .sbcIndx 0x9C),
    ([0xE5, 0x9C], .sbcZp 0x9C), ([0xE9, 0x9C], .sbcImm 0x9C),
    ([0xED, 0x34, 0x12], .sbcAbs 0x1234), ([0xF1, 0x9C], .sbcIndy 0x9C),
    ([0xF5, 0x9C], .sbcZpx 0x9C), ([0xF9, 0x34, 0x12], .sbcAbsy 0x1234),
    ([0xFD, 0x34, 0x12], .sbcAbsx 0x1234)] = true := by decide

theorem test_decode_compares : decodesEach [
    ([0xC1, 0x9C], .cmpIndx 0x9C), ([0xC5, 0x9C], .cmpZp 0x9C), ([0xC9, 0x9C], .cmpImm 0x9C),
    ([0xCD, 0x34, 0x12], .cmpAbs 0x1234), ([0xD1, 0x9C], .cmpIndy 0x9C),
    ([0xD5, 0x9C], .cmpZpx 0x9C), ([0xD9, 0x34, 0x12], .cmpAbsy 0x1234),
    ([0xDD, 0x34, 0x12], .cmpAbsx 0x1234), ([0xE0, 0x9C], .cpxImm 0x9C),
    ([0xE4, 0x9C], .cpxZp 0x9C), ([0xEC, 0x34, 0x12], .cpxAbs 0x1234),
    ([0xC0, 0x9C], .cpyImm 0x9C), ([0xC4, 0x9C], .cpyZp 0x9C),
    ([0xCC, 0x34, 0x12], .cpyAbs 0x1234), ([0x24, 0x9C], .bitZp 0x9C),
    ([0x2C, 0x34, 0x12], .bitAbs 0x1234)] = true := by decide

theorem test_decode_logic : decodesEach [
    ([0x21, 0x9C], .andIndx 0x9C), ([0x25, 0x9C], .andZp 0x9C), ([0x29, 0x9C], .andImm 0x9C),
    ([0x2D, 0x34, 0x12], .andAbs 0x1234), ([0x31, 0x9C], .andIndy 0x9C),
    ([0x35, 0x9C], .andZpx 0x9C), ([0x39, 0x34, 0x12], .andAbsy 0x1234),
    ([0x3D, 0x34, 0x12], .andAbsx 0x1234), ([0x01, 0x9C], .oraIndx 0x9C),
    ([0x05, 0x9C], .oraZp 0x9C), ([0x09, 0x9C], .oraImm 0x9C),
    ([0x0D, 0x34, 0x12], .oraAbs 0x1234), ([0x11, 0x9C], .oraIndy 0x9C),
    ([0x15, 0x9C], .oraZpx 0x9C), ([0x19, 0x34, 0x12], .oraAbsy 0x1234),
    ([0x1D, 0x34, 0x12], .oraAbsx 0x1234), ([0x41, 0x9C], .eorIndx 0x9C),
    ([0x45, 0x9C], .eorZp 0x9C), ([0x49, 0x9C], .eorImm 0x9C),
    ([0x4D, 0x34, 0x12], .eorAbs 0x1234), ([0x51, 0x9C], .eorIndy 0x9C),
    ([0x55, 0x9C], .eorZpx 0x9C), ([0x59, 0x34, 0x12], .eorAbsy 0x1234),
    ([0x5D, 0x34, 0x12], .eorAbsx 0x1234)] = true := by decide

theorem test_decode_counts : decodesEach [
    ([0xE6, 0x9C], .incZp 0x9C), ([0xEE, 0x34, 0x12], .incAbs 0x1234),
    ([0xF6, 0x9C], .incZpx 0x9C), ([0xFE, 0x34, 0x12], .incAbsx 0x1234),
    ([0xC6, 0x9C], .decZp 0x9C), ([0xCE, 0x34, 0x12], .decAbs 0x1234),
    ([0xD6, 0x9C], .decZpx 0x9C), ([0xDE, 0x34, 0x12], .decAbsx 0x1234), ([0xE8], .inx),
    ([0xC8], .iny), ([0xCA], .dex), ([0x88], .dey)] = true := by decide

theorem test_decode_shifts : decodesEach [
    ([0x06, 0x9C], .aslZp 0x9C), ([0x0A], .aslAcc), ([0x0E, 0x34, 0x12], .aslAbs 0x1234),
    ([0x16, 0x9C], .aslZpx 0x9C), ([0x1E, 0x34, 0x12], .aslAbsx 0x1234),
    ([0x46, 0x9C], .lsrZp 0x9C), ([0x4A], .lsrAcc), ([0x4E, 0x34, 0x12], .lsrAbs 0x1234),
    ([0x56, 0x9C], .lsrZpx 0x9C), ([0x5E, 0x34, 0x12], .lsrAbsx 0x1234),
    ([0x26, 0x9C], .rolZp 0x9C), ([0x2A], .rolAcc), ([0x2E, 0x34, 0x12], .rolAbs 0x1234),
    ([0x36, 0x9C], .rolZpx 0x9C), ([0x3E, 0x34, 0x12], .rolAbsx 0x1234),
    ([0x66, 0x9C], .rorZp 0x9C), ([0x6A], .rorAcc), ([0x6E, 0x34, 0x12], .rorAbs 0x1234),
    ([0x76, 0x9C], .rorZpx 0x9C), ([0x7E, 0x34, 0x12], .rorAbsx 0x1234)] = true := by decide

theorem test_decode_branches : decodesEach [
    ([0x90, 0x9C], .bcc 0x9C), ([0xB0, 0x9C], .bcs 0x9C), ([0xF0, 0x9C], .beq 0x9C),
    ([0xD0, 0x9C], .bne 0x9C), ([0x30, 0x9C], .bmi 0x9C), ([0x10, 0x9C], .bpl 0x9C),
    ([0x50, 0x9C], .bvc 0x9C), ([0x70, 0x9C], .bvs 0x9C)] = true := by decide

theorem test_decode_jumps : decodesEach [
    ([0x4C, 0x34, 0x12], .jmpAbs 0x1234), ([0x6C, 0x34, 0x12], .jmpInd 0x1234),
    ([0x20, 0x34, 0x12], .jsr 0x1234), ([0x60], .rts)] = true := by decide

theorem test_decode_system : decodesEach [
    ([0x48], .pha), ([0x08], .php), ([0x68], .pla), ([0x28], .plp), ([0x18], .clc), ([0x38], .sec),
    ([0x58], .cli), ([0x78], .sei), ([0xB8], .clv), ([0xD8], .cld), ([0xF8], .sed), ([0xEA], .nop),
    ([0x00], .brk), ([0x40], .rti)] = true := by decide

theorem test_decode_unassigned_a : decodesEach [
    ([0x02], .unassigned02), ([0x03], .unassigned03), ([0x04], .unassigned04),
    ([0x07], .unassigned07), ([0x0B], .unassigned0B), ([0x0C], .unassigned0C),
    ([0x0F], .unassigned0F), ([0x12], .unassigned12), ([0x13], .unassigned13),
    ([0x14], .unassigned14), ([0x17], .unassigned17), ([0x1A], .unassigned1A),
    ([0x1B], .unassigned1B), ([0x1C], .unassigned1C), ([0x1F], .unassigned1F),
    ([0x22], .unassigned22), ([0x23], .unassigned23), ([0x27], .unassigned27),
    ([0x2B], .unassigned2B), ([0x2F], .unassigned2F), ([0x32], .unassigned32),
    ([0x33], .unassigned33), ([0x34], .unassigned34), ([0x37], .unassigned37),
    ([0x3A], .unassigned3A), ([0x3B], .unassigned3B), ([0x3C], .unassigned3C),
    ([0x3F], .unassigned3F), ([0x42], .unassigned42), ([0x43], .unassigned43),
    ([0x44], .unassigned44), ([0x47], .unassigned47), ([0x4B], .unassigned4B),
    ([0x4F], .unassigned4F), ([0x52], .unassigned52)] = true := by decide

theorem test_decode_unassigned_b : decodesEach [
    ([0x53], .unassigned53), ([0x54], .unassigned54), ([0x57], .unassigned57),
    ([0x5A], .unassigned5A), ([0x5B], .unassigned5B), ([0x5C], .unassigned5C),
    ([0x5F], .unassigned5F), ([0x62], .unassigned62), ([0x63], .unassigned63),
    ([0x64], .unassigned64), ([0x67], .unassigned67), ([0x6B], .unassigned6B),
    ([0x6F], .unassigned6F), ([0x72], .unassigned72), ([0x73], .unassigned73),
    ([0x74], .unassigned74), ([0x77], .unassigned77), ([0x7A], .unassigned7A),
    ([0x7B], .unassigned7B), ([0x7C], .unassigned7C), ([0x7F], .unassigned7F),
    ([0x80], .unassigned80), ([0x82], .unassigned82), ([0x83], .unassigned83),
    ([0x87], .unassigned87), ([0x89], .unassigned89), ([0x8B], .unassigned8B),
    ([0x8F], .unassigned8F), ([0x92], .unassigned92), ([0x93], .unassigned93),
    ([0x97], .unassigned97), ([0x9B], .unassigned9B), ([0x9C], .unassigned9C),
    ([0x9E], .unassigned9E), ([0x9F], .unassigned9F)] = true := by decide

theorem test_decode_unassigned_c : decodesEach [
    ([0xA3], .unassignedA3), ([0xA7], .unassignedA7), ([0xAB], .unassignedAB),
    ([0xAF], .unassignedAF), ([0xB2], .unassignedB2), ([0xB3], .unassignedB3),
    ([0xB7], .unassignedB7), ([0xBB], .unassignedBB), ([0xBF], .unassignedBF),
    ([0xC2], .unassignedC2), ([0xC3], .unassignedC3), ([0xC7], .unassignedC7),
    ([0xCB], .unassignedCB), ([0xCF], .unassignedCF), ([0xD2], .unassignedD2),
    ([0xD3], .unassignedD3), ([0xD4], .unassignedD4), ([0xD7], .unassignedD7),
    ([0xDA], .unassignedDA), ([0xDB], .unassignedDB), ([0xDC], .unassignedDC),
    ([0xDF], .unassignedDF), ([0xE2], .unassignedE2), ([0xE3], .unassignedE3),
    ([0xE7], .unassignedE7), ([0xEB], .unassignedEB), ([0xEF], .unassignedEF),
    ([0xF2], .unassignedF2), ([0xF3], .unassignedF3), ([0xF4], .unassignedF4),
    ([0xF7], .unassignedF7), ([0xFA], .unassignedFA), ([0xFB], .unassignedFB),
    ([0xFC], .unassignedFC), ([0xFF], .unassignedFF)] = true := by decide

theorem test_decode_truncated : decode [0xAD, 0x34] = .error (.truncated 0xAD) := by rfl
theorem test_decode_nothing : decode [] = .error .noBytes := by rfl

/-- spec/opcode_table.json numbers LDA absolute's bytes 0xAD, 0x34, 0x12 as the word 0x1234AD. -/
theorem test_table_word_bytes : decodeTableWord 24 0x1234AD = some (.ldaAbs 0x1234) := by decide
theorem test_table_word_short : decodeTableWord 8 0x6C = some (.jmpInd 0x0000) := by decide

/-! ## One step: the vectors of 95_test_vectors.md -/

/-- V2.1 (R100). -/
theorem test_lda_imm_zero :
    after ({ codeAt 0x8000 [0xA9, 0x00] with a := 0x55 })
      (fun t => (t.a, t.p)) = some (0x00, 0x26) := by
  decide

/-- V2.5 (R100). -/
theorem test_lda_indx_pointer_wraps_in_page_zero :
    after (cells [(0x00FF, 0x34), (0x0000, 0x12), (0x1234, 0x99)]
      { codeAt 0x8000 [0xA1, 0xFE] with x := 0x01 })
      (fun t => (t.a, t.p)) = some (0x99, 0xA4) := by
  decide

/-- V2.9 (R101). -/
theorem test_ldx_zpy_wraps :
    after (cells [(0x0001, 0xC3)] { codeAt 0x8000 [0xB6, 0xFF] with y := 0x02 })
      (fun t => (t.x, t.p)) = some (0xC3, 0xA4) := by
  decide

/-- V2.10 (R102). -/
theorem test_ldy_absx :
    after (cells [(0x2005, 0x00)] { codeAt 0x8000 [0xBC, 0x00, 0x20] with x := 0x05, y := 0x09 })
      (fun t => (t.y, t.p)) = some (0x00, 0x26) := by
  decide

/-- V2.11 (R103). -/
theorem test_sta_zpx_wraps :
    after ({ codeAt 0x8000 [0x95, 0xFF] with a := 0xAB, x := 0x01 })
      (fun t => (t.mem.read 0x0000, t.p)) = some (0xAB, 0x24) := by
  decide

/-- V2.13 (R103). -/
theorem test_sta_indy_to_console :
    after (cells [(0x0040, 0x01), (0x0041, 0xF0)] { codeAt 0x8000 [0x91, 0x40] with a := 0x21 })
      (fun t => (t.mem.read 0xF001, t.console)) = some (0x21, [0x21]) := by
  decide

/-- V2.15 (R104). -/
theorem test_stx_to_console :
    after ({ codeAt 0x8000 [0x8E, 0x01, 0xF0] with x := 0x0A })
      (fun t => (t.mem.read 0xF001, t.console)) = some (0x0A, [0x0A]) := by
  decide

/-- V2.16 (R105). -/
theorem test_sty_zpx :
    after ({ codeAt 0x8000 [0x94, 0x80] with y := 0x5A, x := 0x90 })
      (fun t => (t.mem.read 0x0010, t.p)) = some (0x5A, 0x24) := by
  decide

/-- V2.17 (R106). -/
theorem test_tax :
    after ({ codeAt 0x8000 [0xAA] with a := 0x00, x := 0x12 })
      (fun t => (t.x, t.p)) = some (0x00, 0x26) := by
  decide

/-- V2.18 (R107). -/
theorem test_tay :
    after ({ codeAt 0x8000 [0xA8] with a := 0x90 }) (fun t => (t.y, t.p)) = some (0x90, 0xA4) := by
  decide

/-- V2.19 (R108). -/
theorem test_txa :
    after ({ codeAt 0x8000 [0x8A] with x := 0x00, a := 0x33 })
      (fun t => (t.a, t.p)) = some (0x00, 0x26) := by
  decide

/-- V2.20 (R109). -/
theorem test_tya :
    after ({ codeAt 0x8000 [0x98] with y := 0x80 }) (fun t => (t.a, t.p)) = some (0x80, 0xA4) := by
  decide

/-- V2.21 (R110). -/
theorem test_tsx_writes_flags :
    after ({ codeAt 0x8000 [0xBA] with sp := 0x00 }) (fun t => (t.x, t.p)) = some (0x00, 0x26) := by
  decide

/-- V2.22 (R111). -/
theorem test_txs_writes_no_flag :
    after ({ codeAt 0x8000 [0x9A] with x := 0x00 }) (fun t => (t.sp, t.p)) = some (0x00, 0x24) := by
  decide

/-- V3.4 (R121). -/
theorem test_adc_carry_in_and_out :
    after ({ codeAt 0x8000 [0x69, 0xFF] with a := 0xFF, p := 0x25 })
      (fun t => (t.a, t.p)) = some (0xFF, 0xA5) := by
  decide

/-- V3.6 (R121). -/
theorem test_adc_ignores_decimal :
    after ({ codeAt 0x8000 [0x69, 0x01] with a := 0x09, p := 0x2C })
      (fun t => (t.a, t.p)) = some (0x0A, 0x2C) := by
  decide

/-- V3.10 (R122). -/
theorem test_sbc_borrow_out :
    after ({ codeAt 0x8000 [0xE9, 0x01] with a := 0x00, p := 0x25 })
      (fun t => (t.a, t.p)) = some (0xFF, 0xA4) := by
  decide

/-- V3.11 (R122). -/
theorem test_sbc_signed_overflow :
    after ({ codeAt 0x8000 [0xE9, 0x01] with a := 0x80, p := 0x25 })
      (fun t => (t.a, t.p)) = some (0x7F, 0x65) := by
  decide

/-- V3.15 (R124). -/
theorem test_cmp_less :
    after ({ codeAt 0x8000 [0xC9, 0x20] with a := 0x10 })
      (fun t => (t.a, t.p)) = some (0x10, 0xA4) := by
  decide

/-- V3.17 (R124). -/
theorem test_cmp_keeps_overflow :
    after ({ codeAt 0x8000 [0xC9, 0x00] with a := 0x00, p := 0x64 })
      (fun t => (t.a, t.p)) = some (0x00, 0x67) := by
  decide

/-- V3.18 (R125). -/
theorem test_cpx_equal :
    after (cells [(0x3000, 0xFF)] { codeAt 0x8000 [0xEC, 0x00, 0x30] with x := 0xFF })
      (fun t => (t.x, t.p)) = some (0xFF, 0x27) := by
  decide

/-- V3.19 (R126). -/
theorem test_cpy_less :
    after (cells [(0x0010, 0x80)] { codeAt 0x8000 [0xC4, 0x10] with y := 0x7F })
      (fun t => (t.y, t.p)) = some (0x7F, 0xA4) := by
  decide

/-- V3.20 (R127). -/
theorem test_and_zero :
    after ({ codeAt 0x8000 [0x29, 0x0F] with a := 0xF0 })
      (fun t => (t.a, t.p)) = some (0x00, 0x26) := by
  decide

/-- V3.21 (R128). -/
theorem test_ora_zp :
    after (cells [(0x0010, 0x80)] { codeAt 0x8000 [0x05, 0x10] with a := 0x01 })
      (fun t => (t.a, t.p)) = some (0x81, 0xA4) := by
  decide

/-- V3.22 (R129). -/
theorem test_eor_with_itself :
    after ({ codeAt 0x8000 [0x49, 0xA5] with a := 0xA5 })
      (fun t => (t.a, t.p)) = some (0x00, 0x26) := by
  decide

/-- V3.23 (R130). -/
theorem test_bit_copies_n_and_v :
    after (cells [(0x1200, 0x3F)] { codeAt 0x8000 [0x2C, 0x00, 0x12] with a := 0xFF, p := 0xE4 })
      (fun t => (t.a, t.p)) = some (0xFF, 0x24) := by
  decide

/-- V3.25 (R130). -/
theorem test_bit_on_console_port :
    after (cells [(0xF001, 0xFF)] { codeAt 0x8000 [0x2C, 0x01, 0xF0] with a := 0xFF, p := 0xE4 })
      (fun t => (t.p, t.pc)) = some (0x26, 0x8003) := by
  decide

/-- V3.26 (R131). -/
theorem test_inc_wraps :
    after (cells [(0x12FF, 0xFF)] { codeAt 0x8000 [0xEE, 0xFF, 0x12] with p := 0x25 })
      (fun t => (t.mem.read 0x12FF, t.p)) = some (0x00, 0x27) := by
  decide

/-- V3.27 (R131). -/
theorem test_inc_on_console_port :
    after (cells [(0xF001, 0x41)] (codeAt 0x8000 [0xEE, 0x01, 0xF0]))
      (fun t => (t.mem.read 0xF001, t.console)) = some (0x01, [0x01]) := by
  decide

/-- V3.28 (R132). -/
theorem test_dec_wraps :
    after (cells [(0x0010, 0x00)] (codeAt 0x8000 [0xC6, 0x10]))
      (fun t => (t.mem.read 0x0010, t.p)) = some (0xFF, 0xA4) := by
  decide

/-- V3.29 (R132). -/
theorem test_dec_zpx_wraps :
    after (cells [(0x000F, 0x01)] { codeAt 0x8000 [0xD6, 0xFF] with x := 0x10 })
      (fun t => (t.mem.read 0x000F, t.p)) = some (0x00, 0x26) := by
  decide

/-- V3.30 (R133). -/
theorem test_inx_wraps :
    after ({ codeAt 0x8000 [0xE8] with x := 0xFF }) (fun t => (t.x, t.p)) = some (0x00, 0x26) := by
  decide

/-- V3.31 (R134). -/
theorem test_iny :
    after ({ codeAt 0x8000 [0xC8] with y := 0x7F }) (fun t => (t.y, t.p)) = some (0x80, 0xA4) := by
  decide

/-- V3.32 (R135). -/
theorem test_dex_wraps :
    after ({ codeAt 0x8000 [0xCA] with x := 0x00 }) (fun t => (t.x, t.p)) = some (0xFF, 0xA4) := by
  decide

/-- V3.33 (R136). -/
theorem test_dey :
    after ({ codeAt 0x8000 [0x88] with y := 0x01 }) (fun t => (t.y, t.p)) = some (0x00, 0x26) := by
  decide

/-- V4.1 (R141). -/
theorem test_asl_acc :
    after ({ codeAt 0x8000 [0x0A] with a := 0x80 }) (fun t => (t.a, t.p)) = some (0x00, 0x27) := by
  decide

/-- V4.2 (R141). -/
theorem test_asl_keeps_carry_out_of_result :
    after (cells [(0x0010, 0x40)] { codeAt 0x8000 [0x06, 0x10] with p := 0x25 })
      (fun t => (t.mem.read 0x0010, t.p)) = some (0x80, 0xA4) := by
  decide

/-- V4.3 (R142). -/
theorem test_lsr_acc :
    after ({ codeAt 0x8000 [0x4A] with a := 0x01, p := 0xA4 })
      (fun t => (t.a, t.p)) = some (0x00, 0x27) := by
  decide

/-- V4.4 (R142). -/
theorem test_lsr_absx :
    after (cells [(0x3001, 0xFF)] { codeAt 0x8000 [0x5E, 0x00, 0x30] with x := 0x01 })
      (fun t => (t.mem.read 0x3001, t.p)) = some (0x7F, 0x25) := by
  decide

/-- V4.6 (R143). -/
theorem test_rol_carry_in :
    after ({ codeAt 0x8000 [0x2A] with a := 0x80, p := 0x25 })
      (fun t => (t.a, t.p)) = some (0x01, 0x25) := by
  decide

/-- V4.7 (R143). -/
theorem test_rol_abs :
    after (cells [(0x2000, 0x55)] { codeAt 0x8000 [0x2E, 0x00, 0x20] with p := 0x25 })
      (fun t => (t.mem.read 0x2000, t.p)) = some (0xAB, 0xA4) := by
  decide

/-- V4.9 (R144). -/
theorem test_ror_carry_in :
    after ({ codeAt 0x8000 [0x6A] with a := 0x00, p := 0x25 })
      (fun t => (t.a, t.p)) = some (0x80, 0xA4) := by
  decide

/-- V4.10 (R144). -/
theorem test_ror_zpx_wraps :
    after (cells [(0x000F, 0x03)] { codeAt 0x8000 [0x76, 0xFF] with x := 0x10, p := 0x25 })
      (fun t => (t.mem.read 0x000F, t.p)) = some (0x81, 0xA5) := by
  decide

/-- V5.1 (R151). -/
theorem test_bcc_taken :
    after (codeAt 0x8000 [0x90, 0x05]) (fun t => (t.pc, t.p)) = some (0x8007, 0x24) := by
  decide

/-- V5.2 (R151). -/
theorem test_bcc_not_taken :
    after ({ codeAt 0x8000 [0x90, 0x05] with p := 0x25 })
      (fun t => (t.pc, t.p)) = some (0x8002, 0x25) := by
  decide

/-- V5.3 (R152). -/
theorem test_bcs_taken :
    after ({ codeAt 0x8000 [0xB0, 0x05] with p := 0x25 })
      (fun t => (t.pc, t.p)) = some (0x8007, 0x25) := by
  decide

/-- V5.4 (R152). -/
theorem test_bcs_not_taken :
    after (codeAt 0x8000 [0xB0, 0x05]) (fun t => (t.pc, t.p)) = some (0x8002, 0x24) := by
  decide

/-- V5.5 (R153). -/
theorem test_beq_backward :
    after ({ codeAt 0x8010 [0xF0, 0xFA] with p := 0x26 })
      (fun t => (t.pc, t.p)) = some (0x800C, 0x26) := by
  decide

/-- V5.6 (R153). -/
theorem test_beq_not_taken :
    after (codeAt 0x8010 [0xF0, 0xFA]) (fun t => (t.pc, t.p)) = some (0x8012, 0x24) := by
  decide

/-- V5.7 (R154). -/
theorem test_bne_to_itself :
    after (codeAt 0x8000 [0xD0, 0xFE]) (fun t => (t.pc, t.p)) = some (0x8000, 0x24) := by
  decide

/-- V5.17 (R150). -/
theorem test_bne_wraps :
    after (codeAt 0xFFF0 [0xD0, 0x20]) (fun t => (t.pc, t.p)) = some (0x0012, 0x24) := by
  decide

/-- V5.9 (R155). -/
theorem test_bmi_largest_forward :
    after ({ codeAt 0x9000 [0x30, 0x7F] with p := 0xA4 })
      (fun t => (t.pc, t.p)) = some (0x9081, 0xA4) := by
  decide

/-- V5.10 (R155). -/
theorem test_bmi_not_taken :
    after (codeAt 0x9000 [0x30, 0x7F]) (fun t => (t.pc, t.p)) = some (0x9002, 0x24) := by
  decide

/-- V5.11 (R156). -/
theorem test_bpl_largest_backward :
    after (codeAt 0x9000 [0x10, 0x80]) (fun t => (t.pc, t.p)) = some (0x8F82, 0x24) := by
  decide

/-- V5.12 (R156). -/
theorem test_bpl_not_taken :
    after ({ codeAt 0x9000 [0x10, 0x80] with p := 0xA4 })
      (fun t => (t.pc, t.p)) = some (0x9002, 0xA4) := by
  decide

/-- V5.13 (R157). -/
theorem test_bvc_taken :
    after (codeAt 0x8000 [0x50, 0x10]) (fun t => (t.pc, t.p)) = some (0x8012, 0x24) := by
  decide

/-- V5.14 (R157). -/
theorem test_bvc_not_taken :
    after ({ codeAt 0x8000 [0x50, 0x10] with p := 0x64 })
      (fun t => (t.pc, t.p)) = some (0x8002, 0x64) := by
  decide

/-- V5.15 (R158). -/
theorem test_bvs_taken :
    after ({ codeAt 0x8000 [0x70, 0x10] with p := 0x64 })
      (fun t => (t.pc, t.p)) = some (0x8012, 0x64) := by
  decide

/-- V5.16 (R158). -/
theorem test_bvs_not_taken :
    after (codeAt 0x8000 [0x70, 0x10]) (fun t => (t.pc, t.p)) = some (0x8002, 0x24) := by
  decide

/-- V5.20 (R159). -/
theorem test_jmp_to_itself :
    after (codeAt 0x8000 [0x4C, 0x00, 0x80]) (fun t => (t.pc, t.p)) = some (0x8000, 0x24) := by
  decide

/-- V5.22 (R159). -/
theorem test_jmp_indirect_without_page_quirk :
    after (cells [(0x12FF, 0x78), (0x1300, 0x56), (0x1200, 0x99)] (codeAt 0x8000 [0x6C, 0xFF, 0x12]))
      (fun t => (t.pc, t.p)) = some (0x5678, 0x24) := by
  decide

/-- V5.24 (R160). -/
theorem test_jsr_pushes_high_byte_first :
    after (codeAt 0x8000 [0x20, 0x00, 0x90])
      (fun t => (t.mem.read 0x01FD, t.mem.read 0x01FC)) = some (0x80, 0x02) := by
  decide

/-- V5.25 (R160). -/
theorem test_jsr_stack_wraps :
    after ({ codeAt 0x8000 [0x20, 0x00, 0x90] with sp := 0x00 })
      (fun t => (t.pc, t.sp)) = some (0x9000, 0xFE) := by
  decide

/-- V5.27 (R161). -/
theorem test_rts_wraps_to_zero :
    after (cells [(0x01FE, 0xFF), (0x01FF, 0xFF)] { codeAt 0x8000 [0x60] with sp := 0xFD })
      (fun t => (t.pc, t.sp)) = some (0x0000, 0xFF) := by
  decide

/-- V5.28 (R161). -/
theorem test_rts_stack_wraps :
    after (cells [(0x0100, 0x10), (0x0101, 0x20)] { codeAt 0x8000 [0x60] with sp := 0xFF })
      (fun t => (t.pc, t.sp)) = some (0x2011, 0x01) := by
  decide

/-- V6.2 (R170). -/
theorem test_pha_stack_wraps :
    after ({ codeAt 0x8000 [0x48] with a := 0x42, sp := 0x00 })
      (fun t => (t.mem.read 0x0100, t.sp)) = some (0x42, 0xFF) := by
  decide

/-- V6.3 (R171). -/
theorem test_php_pushes_break_and_unused :
    after ({ codeAt 0x8000 [0x08] with p := 0xE3 })
      (fun t => (t.mem.read 0x01FD, t.p)) = some (0xF3, 0xE3) := by
  decide

/-- V6.4 (R172). -/
theorem test_pla_stack_wraps :
    after (cells [(0x0100, 0x80)] { codeAt 0x8000 [0x68] with sp := 0xFF })
      (fun t => (t.a, t.sp)) = some (0x80, 0x00) := by
  decide

/-- V6.5 (R173). -/
theorem test_plp_clears_break :
    after (cells [(0x01FE, 0xFF)] (codeAt 0x8000 [0x28]))
      (fun t => (t.p, t.sp)) = some (0xEF, 0xFE) := by
  decide

/-- V6.6 (R173). -/
theorem test_plp_sets_unused :
    after (cells [(0x01FE, 0x00)] (codeAt 0x8000 [0x28]))
      (fun t => (t.p, t.sp)) = some (0x20, 0xFE) := by
  decide

/-- V6.7 (R174). -/
theorem test_clc :
    after ({ codeAt 0x8000 [0x18] with p := 0x25 })
      (fun t => (t.p, t.pc)) = some (0x24, 0x8001) := by
  decide

/-- V6.8 (R175). -/
theorem test_sec :
    after (codeAt 0x8000 [0x38]) (fun t => (t.p, t.pc)) = some (0x25, 0x8001) := by
  decide

/-- V6.9 (R176). -/
theorem test_cli :
    after (codeAt 0x8000 [0x58]) (fun t => (t.p, t.pc)) = some (0x20, 0x8001) := by
  decide

/-- V6.10 (R177). -/
theorem test_sei :
    after ({ codeAt 0x8000 [0x78] with p := 0x20 })
      (fun t => (t.p, t.pc)) = some (0x24, 0x8001) := by
  decide

/-- V6.11 (R178). -/
theorem test_clv :
    after ({ codeAt 0x8000 [0xB8] with p := 0x64 })
      (fun t => (t.p, t.pc)) = some (0x24, 0x8001) := by
  decide

/-- V6.12 (R179). -/
theorem test_cld :
    after ({ codeAt 0x8000 [0xD8] with p := 0x2C })
      (fun t => (t.p, t.pc)) = some (0x24, 0x8001) := by
  decide

/-- V6.13 (R180). -/
theorem test_sed :
    after (codeAt 0x8000 [0xF8]) (fun t => (t.p, t.pc)) = some (0x2C, 0x8001) := by
  decide

/-- V6.14 (R181). -/
theorem test_nop :
    after ({ codeAt 0x8000 [0xEA] with a := 0x11, x := 0x22, y := 0x33, p := 0xE7 })
      (fun t => (t.p, t.pc)) = some (0xE7, 0x8001) := by
  decide

/-- V6.16 (R182). -/
theorem test_unassigned_takes_no_operand :
    after (codeAt 0x8000 [0x80, 0xA9, 0x05]) (fun t => (t.a, t.pc)) = some (0x00, 0x8001) := by
  decide

/-- V6.18 (R183). -/
theorem test_brk_pushes_return_address_and_status :
    after (cells [(0xFFFE, 0x00), (0xFFFF, 0x90)] (codeAt 0x8000 [0x00, 0xEA]))
      (fun t => (t.mem.read 0x01FC, t.mem.read 0x01FB)) = some (0x02, 0x34) := by
  decide

/-- V6.21 (R183). -/
theorem test_brk_fetched_from_console_port :
    after (cells [(0xFFFE, 0x00), (0xFFFF, 0x90)] (codeAt 0xF001 [0xEA]))
      (fun t => (t.mem.read 0x01FC, t.pc)) = some (0x03, 0x9000) := by
  decide

/-- V6.22 (R184). -/
theorem test_rti_adds_nothing :
    after (cells [(0x01FB, 0x34), (0x01FC, 0x02), (0x01FD, 0x80)]
      { codeAt 0x8000 [0x40] with sp := 0xFA })
      (fun t => (t.pc, t.sp)) = some (0x8002, 0xFD) := by
  decide

/-- V6.23 (R184). -/
theorem test_rti_restores_status :
    after (cells [(0x01FB, 0xDB), (0x01FC, 0x00), (0x01FD, 0x00)]
      { codeAt 0x8000 [0x40] with sp := 0xFA })
      (fun t => (t.pc, t.p)) = some (0x0000, 0xEB) := by
  decide

/-- V7.2 (R44). -/
theorem test_store_over_own_opcode :
    after ({ codeAt 0x8000 [0x8D, 0x00, 0x80] with a := 0xEA })
      (fun t => (t.mem.read 0x8000, t.pc)) = some (0xEA, 0x8003) := by
  decide

/-- V1.9 (R39, R220). -/
theorem test_reset_takes_vector :
    (cells [(0xFFFC, 0x34), (0xFFFD, 0x12)] State.reset).resetEngine.pc = 0x1234 := by decide

/-! ## The assembler: vectors V1 and V8 -/

/-- V8.3 (R96). -/
theorem test_assemble_forward_reference :
    (Asm.assemble ".ORG $0000\nLDA FWD\nFWD: .BYTE 7".toList).machineCode =
      [0xAD, 0x03, 0x00, 0x07] := by decide

/-- Pass 2 resolves the operand of `.ORG` against the completed label table (R81). -/
theorem test_assemble_origin_bound_later :
    let out := Asm.assemble ".ORG L\nL: NOP".toList
    (out.errors, out.machineCode, out.startAddress) = ([], [0xEA], 0x0000) := by decide

/-- Every reference in pass 2 takes the newest binding, that of `.ORG` too (R83): the second line of
code is at the second `A`, 0x9000. -/
theorem test_assemble_origin_redefined :
    let out := Asm.assemble "A: NOP\n.ORG A\nNOP\n.ORG $9000\nA: NOP".toList
    (out.errors, out.lineMap) =
      ([⟨5, .duplicateLabel⟩], [(0x8000, 1), (0x9000, 3), (0x9000, 5)]) := by decide

/-- An unlabelled line may stand elsewhere than in pass 1: the label L is 0x9000 in both (R96), and
nothing lies below the start address (R95). -/
theorem test_assemble_origin_forward :
    let out := Asm.assemble "NOP\n.ORG L\nNOP\n.ORG $9000\nL: NOP".toList
    (out.errors, out.startAddress, out.lineMap) =
      ([], 0x8000, [(0x8000, 1), (0x9000, 3), (0x9000, 5)]) := by decide

/-- No code is emitted where the passes do not agree on a label (R96, R99, assumption 11). -/
theorem test_assemble_origin_circular :
    let out := Asm.assemble ".ORG L\nNOP\nL: JMP L".toList
    (out.errors, out.machineCode) = ([⟨3, .invalidOrigin⟩], []) := by decide

/-- R104: STX with `,Y` and an address above 0xFF is rejected, that of a label bound later too. -/
theorem test_assemble_stx_forward_wide :
    (Asm.assemble "STX L,Y\nL: NOP".toList).errors = [⟨1, .invalidAddressingMode⟩] := by decide

/-- R96, R90: STY with `,X` keeps pass 1's zero-page-X mode, and emits the low byte of L, 0x8002. -/
theorem test_assemble_sty_forward_wide :
    let out := Asm.assemble "STY L,X\nL: NOP".toList
    (out.errors, out.machineCode) = ([], [0x94, 0x02, 0xEA]) := by decide

/-- R88, R89: with an address above 0xFF known in pass 1, STY with `,X` is rejected. -/
theorem test_assemble_sty_wide :
    (Asm.assemble "STY $0100,X".toList).errors = [⟨1, .invalidAddressingMode⟩] := by decide

/-- R96: STX has no absolute-Y form, so a forward reference is sized zero-page-Y (assumption 18). -/
theorem test_assemble_stx_forward :
    let out := Asm.assemble ".ORG $0010\nSTX L,Y\nL: NOP".toList
    (out.errors, out.machineCode) = ([], [0x96, 0x12, 0xEA]) := by decide

/-- A malformed literal sizes its line as 0 does (assumption 19). -/
theorem test_assemble_malformed_size :
    (Asm.assemble "LDA $G\nNOP".toList).lineMap = [(0x8000, 1), (0x8002, 2)] := by decide

/-- White space ends the first token (assumption 9). -/
theorem test_assemble_token :
    (Asm.assemble "LDA#$05".toList).errors = [⟨1, .unknownMnemonic⟩] := by decide

/-- V8.14 (R95). -/
theorem test_assemble_invalid_origin :
    (Asm.assemble ".ORG $9000\nNOP\n.ORG $8000\nNOP".toList).errors = [⟨4, .invalidOrigin⟩] := by
  decide

/-- V8.15 (R86). -/
theorem test_assemble_bytes :
    (Asm.assemble ".BYTE \"HI\"\n.BYTE $0D, 10, %1".toList).machineCode =
      [0x48, 0x49, 0x0D, 0x0A, 0x01] := by decide

/-- V8.16 (R95). -/
theorem test_assemble_gap :
    (Asm.assemble "NOP\n.ORG $8004\nNOP".toList).machineCode =
      [0xEA, 0x00, 0x00, 0x00, 0xEA] := by decide

/-- V8.19 (R91). -/
theorem test_assemble_branch_out_of_range :
    (Asm.assemble "BNE $8082".toList).errors = [⟨1, .branchOutOfRange⟩] := by decide

/-- V8.22 (R83). -/
theorem test_assemble_duplicate_label :
    (Asm.assemble "A: NOP\nA: NOP\nB: JMP B".toList).errors = [⟨2, .duplicateLabel⟩] := by decide

/-- V8.24 (R88). -/
theorem test_assemble_indirect_modes :
    (Asm.assemble "STA ($10),Y\nLDA ($20,X)\nJMP ($1234)".toList).machineCode =
      [0x91, 0x10, 0xA1, 0x20, 0x6C, 0x34, 0x12] := by decide


/-! ## Witnesses: states and operands that meet the statements' hypotheses -/

/-- The base state with memory cleared: PC is 0x8000, SP is 0xFD. -/
def base : State := codeAt 0x8000 []

theorem test_witness_EncodeOfDecode :
    decode [0x6C, 0x34, 0x12, 0xEA] = .ok (.jmpInd 0x1234, [0xEA]) := by decide

theorem test_witness_TableAndDecoderAgree :
    Mnemonic.opcode .lda .imm = some 0xA9 ∧ Mnemonic.opcode .brk .imp = some 0x00 ∧
      Mnemonic.opcode .inc .absx = some 0xFE ∧
      Instr.shape .unassigned02 = .unassigned 0x02 ∧ Instr.shape .unassignedFF = .unassigned 0xFF := by
  decide

theorem test_witness_DecoderIsTotal :
    (0x00#8) ∉ unassignedOpcodes ∧ (0x02#8) ∈ unassignedOpcodes ∧ (0xFE#8) ∉ unassignedOpcodes ∧
      (0xFF#8) ∈ unassignedOpcodes := by decide

theorem test_witness_OpcodeFixesLength :
    (decodeOp 0xEA 0x00 0x00).shape = .documented .nop .imp ∧
      (decodeOp 0x80 0xA9 0x05).shape = .unassigned 0x80 ∧
      (decodeOp 0xB5 0x10 0xFF).shape = .documented .lda (.zpx 0x10) ∧
      (decodeOp 0x20 0x34 0x12).shape = .documented .jsr (.abs 0x1234) := by decide

/-- At the top of memory the bytes of an instruction wrap to 0x0000 (R26). -/
theorem test_witness_StepRunsDecodedInstruction :
    let s := codeAt 0xFFFF [0x4C, 0x34, 0x12]
    decode [s.codeByte 0, s.codeByte 1, s.codeByte 2] = .ok (.jmpAbs 0x1234, []) ∧
      step s = exec (.jmpAbs 0x1234) (s.setPc 0x0002) := ⟨rfl, rfl⟩

/-- A store from a lawful state, which completes and leaves a byte listed. -/
theorem test_witness_StepKeepsLawful :
    let s : State := { codeAt 0x8000 [0x85, 0x10] with a := 0x7F }
    s.lawful = true ∧ after s (fun t => (t.lawful, t.mem.read 0x0010)) = some (true, 0x7F) := by
  decide

/-- One and three bytes; PC at the last place whose three bytes end before the console port, and at
the first whose bytes would take it in (assumption 5). -/
theorem test_witness_StoredWordRunsNext :
    decodeTableWord 8 0xEA = some .nop ∧ decodeTableWord 24 0x1234AD = some (.ldaAbs 0x1234) ∧
      ((codeAt 0xEFFE []).withFetchWord 24 0x1234AD).pc = 0xEFFE ∧
      ((codeAt 0xEFFF []).withFetchWord 24 0x1234AD).pc = 0x0000 ∧
      ((codeAt 0xEFFF []).withFetchWord 24 0x1234AD).fetch = .ldaAbs 0x1234 := by decide

theorem test_witness_ReadGate :
    let s := cells [(0xF000, 0x11), (0xF001, 0x22), (0xF002, 0x33)] (codeAt 0xF001 [])
    s.readByte 0xF000 = 0x11 ∧ s.readByte 0xF001 = 0x00 ∧ s.readByte 0xF002 = 0x33 ∧
      s.mem.read 0xF001 = 0x22 ∧ s.pc = 0xF001 := by decide

theorem test_witness_WriteGate :
    (base.writeByte 0xF001 0x48).console = [0x48] ∧ (base.writeByte 0xF000 0x48).console = [] ∧
      (base.writeByte 0xF002 0x48).console = [] := by decide

theorem test_witness_FetchSeesStores :
    (base.writeByte 0x8001 0xE8).codeByte 1 = 0xE8 ∧ (base.writeByte 0x8002 0xE8).codeByte 1 = 0x00 ∧
      ((codeAt 0xF001 []).writeByte 0xF001 0xE8).codeByte 0 = 0x00 := by decide

theorem test_witness_PushesThenPullsReverse :
    ([] : List Byte).length ≤ 256 ∧ (List.replicate 256 0x5A#8).length ≤ 256 ∧
      (pullMany 3 (pushAll [0x01, 0x02, 0x03] { base with sp := 0x01 })).1 = [0x03, 0x02, 0x01] :=
  ⟨by decide, List.length_replicate.le, by decide⟩

theorem test_witness_OperandBytes :
    operandAddress (.zp 0xFF) base = some 0x00FF ∧
      operandAddress (.absx 0xFFFF) { base with x := 0x02 } = some 0x0001 := by decide

theorem test_witness_LoadResults :
    (Mnemonic.lda, Reg.a) ∈ [(Mnemonic.lda, Reg.a), (.ldx, .x), (.ldy, .y)] ∧
      (Instr.ldaIndy 0xFF).shape = .documented .lda (.indy 0xFF) ∧
      (Instr.ldxZpy 0xFF).shape = .documented .ldx (.zpy 0xFF) ∧
      (Instr.ldyImm 0x00).shape = .documented .ldy (.imm 0x00) := by decide

theorem test_witness_StoreResults :
    (Mnemonic.sta, Reg.a) ∈ [(Mnemonic.sta, Reg.a), (.stx, .x), (.sty, .y)] ∧
      (Instr.staAbs 0xF001).shape = .documented .sta (.abs 0xF001) ∧
      (Instr.stxZpy 0xFF).shape = .documented .stx (.zpy 0xFF) ∧
      (Instr.styZp 0x00).shape = .documented .sty (.zp 0x00) := by decide

theorem test_witness_AdderRule : Flag.d ∉ [Flag.c, .v, .z, .n] := by decide

theorem test_witness_AdcResult_SbcResult :
    (Instr.adcImm 0xFF).shape = .documented .adc (.imm 0xFF) ∧
      (Instr.adcIndx 0x10).shape = .documented .adc (.indx 0x10) ∧
      (Instr.sbcAbsy 0xFFFF).shape = .documented .sbc (.absy 0xFFFF) := by decide

theorem test_witness_CompareResults :
    (Mnemonic.cpx, Reg.x) ∈ [(Mnemonic.cmp, Reg.a), (.cpx, .x), (.cpy, .y)] ∧
      (Instr.cmpImm 0x80).shape = .documented .cmp (.imm 0x80) ∧
      (Instr.cpxAbs 0x1234).shape = .documented .cpx (.abs 0x1234) ∧
      (Instr.cpyZp 0x10).shape = .documented .cpy (.zp 0x10) := by decide

theorem test_witness_LogicResults :
    (Instr.andImm 0x0F).shape = .documented .and (.imm 0x0F) ∧
      (Instr.oraZpx 0xFF).shape = .documented .ora (.zpx 0xFF) ∧
      (Instr.eorIndy 0x10).shape = .documented .eor (.indy 0x10) := by decide

theorem test_witness_BitResult :
    (Instr.bitZp 0x10).shape = .documented .bit (.zp 0x10) ∧
      (Instr.bitAbs 0xF001).shape = .documented .bit (.abs 0xF001) := by decide

theorem test_witness_IncDecMemoryResults :
    (Mnemonic.inc, 1) ∈ [(Mnemonic.inc, 1), (.dec, 255)] ∧
      (Mnemonic.dec, 255) ∈ [(Mnemonic.inc, 1), (.dec, 255)] ∧
      (Instr.incAbs 0xF001).shape = .documented .inc (.abs 0xF001) ∧
      (Instr.decZpx 0xFF).shape = .documented .dec (.zpx 0xFF) := by decide

/-- Both forms, in A and in memory, of a mnemonic the statement names. -/
theorem test_witness_ShiftResults :
    Mnemonic.asl ∈ [Mnemonic.asl, .lsr, .rol, .ror] ∧
      Instr.aslAcc.shape = .documented .asl .acc ∧
      (Instr.rorAbsx 0xFFFF).shape = .documented .ror (.absx 0xFFFF) ∧
      Operand.absx 0xFFFF ≠ .acc := by decide

/-- Taken with the largest displacement forward, not taken with the largest backward one. -/
theorem test_witness_BranchResults :
    let s := codeAt 0x8000 [0x90, 0x7F]
    let u := codeAt 0x8000 [0xF0, 0x80]
    (Mnemonic.bcc, (0x90#8), Flag.c, false) ∈ branchConditions ∧
      (Instr.bcc 0x7F).shape = .documented .bcc (.rel 0x7F) ∧ s.fetch = .bcc 0x7F ∧
      getFlag s.p .c = false ∧
      (Mnemonic.beq, (0xF0#8), Flag.z, true) ∈ branchConditions ∧ u.fetch = .beq 0x80 ∧
      getFlag u.p .z ≠ true := by decide

/-- The state JSR leaves meets the conditions on the subroutine's end. -/
theorem test_witness_CallThenReturn :
    ∃ u, exec (.jsr 0x9000) (base.setPc 0x8003) = .next u ∧
      u.sp = 0xFB ∧ u.mem.read 0x01FD = 0x80 ∧ u.mem.read 0x01FC = 0x02 :=
  ⟨_, rfl, by decide⟩

theorem test_witness_PushResults :
    let s : State := { base with a := 0x42 }
    (Instr.pha, (0x42#8)) ∈ [(Instr.pha, s.a), (.php, s.p ||| 0x30#8)] ∧
      (Instr.php, (0x34#8)) ∈ [(Instr.pha, s.a), (.php, s.p ||| 0x30#8)] := by decide

theorem test_witness_FlagInstructionResults :
    (Mnemonic.clc, (0x18#8), Flag.c, false) ∈ flagInstructions ∧
      Instr.clc.shape = .documented .clc .imp ∧
      (Mnemonic.sed, (0xF8#8), Flag.d, true) ∈ flagInstructions ∧
      Instr.sed.shape = .documented .sed .imp := by decide

theorem test_witness_UnassignedOpcodesAreNoOps :
    Instr.shape .unassigned80 = .unassigned 0x80 ∧
      (codeAt 0x8000 [0x80]).readByte 0x8000 ∈ unassignedOpcodes := by decide

theorem test_witness_NopResult : (codeAt 0x8000 [0xEA]).readByte 0x8000 = 0xEA := by decide

theorem test_witness_BrkResult : (codeAt 0x8000 [0x00, 0xEA]).readByte 0x8000 = 0x00 := by decide

/-- From a lawful state, the state BRK leaves meets the conditions on the handler's end. -/
theorem test_witness_BreakThenReturn :
    (base.setPc 0x8001).lawful = true ∧ ∃ u, exec .brk (base.setPc 0x8001) = .next u ∧
      u.sp = 0xFA ∧ u.mem.read 0x01FD = 0x80 ∧ u.mem.read 0x01FC = 0x02 ∧
      u.mem.read 0x01FB = 0x34 :=
  ⟨by decide, _, rfl, by decide⟩

/-- A state in which TAX, TAY, TXA and TXS change their registers. -/
theorem test_witness_RegisterWritersOnly :
    let s : State := { base with a := 0x01, x := 0x02 }
    (∃ t, exec .txa s = .next t ∧ t.reg .a ≠ s.reg .a) ∧
      (∃ t, exec .tax s = .next t ∧ t.reg .x ≠ s.reg .x) ∧
      (∃ t, exec .tay s = .next t ∧ t.reg .y ≠ s.reg .y) ∧
      (∃ t, exec .txs s = .next t ∧ t.reg .sp ≠ s.reg .sp) ∧
      (∃ t, exec .aslAcc s = .next t ∧ t.reg .a ≠ s.reg .a) :=
  ⟨⟨_, rfl, by decide⟩, ⟨_, rfl, by decide⟩, ⟨_, rfl, by decide⟩, ⟨_, rfl, by decide⟩,
    ⟨_, rfl, by decide⟩⟩

/-- Break and Unused change only from an unlawful status, by the pull that makes it lawful. -/
theorem test_witness_FlagWritersOnly :
    let s : State := { base with p := 0x10 }
    s.lawful = false ∧ (∃ t, exec .sec s = .next t ∧ getFlag t.p .c ≠ getFlag s.p .c) ∧
      (∃ t, exec .brk s = .next t ∧ getFlag t.p .i ≠ getFlag s.p .i) ∧
      (∃ t, exec .plp s = .next t ∧ getFlag t.p .b ≠ getFlag s.p .b ∧
        getFlag t.p .u ≠ getFlag s.p .u) :=
  ⟨by decide, ⟨_, rfl, by decide⟩, ⟨_, rfl, by decide⟩, ⟨_, rfl, by decide⟩⟩

theorem test_witness_MemoryWritersOnly :
    (∃ t, exec .aslAcc base = .next t) ∧
      ∀ mn o, Instr.aslAcc.shape = .documented mn o → mn ∈ memoryWriters → o = .acc :=
  ⟨⟨_, rfl⟩, fun _ _ h _ => (Shape.documented.inj h).2.symm⟩

/-- A step that emits a byte, and one that emits none. -/
theorem test_witness_StepEmitsAtMostOneByte :
    after { codeAt 0x8000 [0x8D, 0x01, 0xF0] with a := 0x48 } (·.console) = some [0x48] ∧
      after (codeAt 0x8000 [0x8D, 0x00, 0xF0]) (·.console) = some [] := by decide

theorem test_witness_StoredFlagsHaveNoEffect :
    let s := codeAt 0x8000 [0x69, 0x01]
    mnemonicOf s.fetch = some .adc ∧ mnemonicOf s.fetch ≠ some .php ∧
      mnemonicOf s.fetch ≠ some .brk ∧ (∃ t, step s = .next t) :=
  ⟨by decide, by decide, by decide, ⟨_, rfl⟩⟩

theorem test_witness_SelfJumpIsParked :
    let s := codeAt 0x8000 [0x4C, 0x00, 0x80]
    let u := codeAt 0x8000 [0xD0, 0xFE]
    s.codeByte 0 = 0x4C ∧ Word.ofBytes (s.codeByte 2) (s.codeByte 1) = s.pc ∧
      (Mnemonic.bne, (0xD0#8), Flag.z, false) ∈ branchConditions ∧ u.codeByte 0 = 0xD0 ∧
      u.codeByte 1 = 0xFE ∧ getFlag u.p .z = false := by decide

/-- A schedule with every kind of call, from the lawful reset state. -/
theorem test_witness_EveryScheduleStaysLawful :
    State.reset.lawful = true ∧
      ∃ t, runSchedule [.load [0xA9, 0x05] 0x8000, .step, .write 0x0010 0x07, .reset]
          State.reset = .next t ∧ t.pc = 0x8000 ∧ t.mem.read 0x0010 = 0x07 :=
  ⟨by decide, _, rfl, by decide⟩

/-- A program below the vector, and one that covers it and wins. -/
theorem test_witness_LoaderProcedure :
    ([0xA9, 0x05] : List Byte).length ≤ 65536 ∧
      (base.load [0xA9, 0x05] 0x8000).pc = 0x8000 ∧
      (base.load [0x11, 0x22, 0x33, 0x44] 0xFFFB).pc = 0x3322 := by decide

theorem test_witness_DiagnosticsSuppressCode :
    (Asm.assemble "LDA #$05\nFOO".toList).errors ≠ [] := by decide

theorem test_witness_TableEntriesAssemble :
    Mnemonic.opcode .sta .absx = some 0x9D ∧ Mode.absx ≠ .rel := by decide

/-- The displacements −128, 127, −129 and 128 from a branch at 0x8000. -/
theorem test_witness_AssembledBranchReachesTarget :
    (Mnemonic.bne, (0xD0#8), Flag.z, false) ∈ branchConditions ∧
      Asm.emitInstruction .bne .rel 0x8000 0x7F82 = ([], [0xD0, 0x80]) ∧
      Asm.emitInstruction .bne .rel 0x8000 0x8081 = ([], [0xD0, 0x7F]) ∧
      (Asm.emitInstruction .bne .rel 0x8000 0x7F81).1 = [.branchOutOfRange] ∧
      (Asm.emitInstruction .bne .rel 0x8000 0x8082).1 = [.branchOutOfRange] := by decide

/-- A source whose `.ORG` names a label bound before it, and a label bound once more after it. -/
theorem test_witness_PassesAgreeOnAddresses :
    let lines := Asm.parseSource "A: NOP\nLDA #$05\n.ORG A\nB: NOP\nB: NOP".toList
    Asm.NoForwardOrigin lines ∧
      (Asm.emissionsOf lines).map Asm.Emission.address = [0x8000, 0x8001, 0x8003, 0x8000, 0x8001] ∧
      lines.map Asm.Line.label = [some ['A'], none, none, some ['B'], some ['B']] := by decide

/-- A source without diagnostics whose `.ORG` names a label bound later, on a line that emits. -/
theorem test_witness_PassesAgreeOnAddresses_noErrors :
    let source := ".ORG L\nL: NOP".toList
    (Asm.assemble source).errors = [] ∧
      (Asm.parseSource source).map Asm.Line.label = [none, some ['L']] ∧
      (Asm.emissions source).map Asm.Emission.bytes = [[], [0xEA]] := by decide

/-- A diagnostic-free line, and one that emits nothing with a diagnostic. -/
theorem test_witness_PassesAgreeOnAddresses_emission :
    (Asm.emissions "LDA #$05\nLDA A".toList).map Asm.Emission.problems =
      [[], [.invalidAddressingMode]] := by decide

/-- A line with bytes, an `.ORG` with a number and an `.ORG` with a label bound later. -/
theorem test_witness_PassesWalkTheLines :
    let lines := Asm.parseSource "NOP\n.ORG $9000\nNOP\n.ORG L\nNOP\nL: NOP".toList
    (Asm.pass1 [] Config.defaultOrigin lines).1.map Asm.Placed.address =
        [0x8000, 0x8001, 0x9000, 0x9001, 0x0000, 0x0001] ∧
      (Asm.emissionsOf lines).map Asm.Emission.address =
        [0x8000, 0x8001, 0x9000, 0x9001, 0x0001, 0x0002] := by decide

/-- For either store a label that pass 1 has not bound, at 0x00FF, the greatest address STX takes, and at
0x0100, the least it does not; and 0x0100 known in pass 1. -/
theorem test_witness_IndexedStoresRejectWideAddresses :
    let lines := Asm.parseSource "STX L,Y\nSTY L,X".toList
    let t := Asm.Term.name ['L']
    lines.map Asm.Line.statement = [.instruction .stx (.indexedY t), .instruction .sty (.indexedX t)] ∧
      t.resolve [] = .unbound ∧
      t.resolve [(['L'], 0x00FF)] = .value 0x00FF ∧ 0x00FF % 65536 ≤ 0xFF ∧
      t.resolve [(['L'], 0x0100)] = .value 0x0100 ∧ 0xFF < 0x0100 % 65536 := by decide

end Sys2Proof.Tests
end

section
/-!
PROOFS. The stack primitives (00_scope.md R13): what a push and a pull change and what they keep.
-/

namespace Sys2Proof.Machine

/-- Two states that agree on A, X, Y and P differ at most in SP among the registers and flags. -/
theorem keepsAllBut_sp {s t : State} (ha : t.a = s.a) (hx : t.x = s.x) (hy : t.y = s.y)
    (hp : t.p = s.p) : KeepsAllBut [.sp] [] s t := by
  refine ⟨fun r hr => ?_, fun f _ => by rw [hp]⟩
  cases r with
  | a => exact ha
  | x => exact hx
  | y => exact hy
  | sp => simp at hr

/-- `stackAddress_ne_port`, with the port written as the statements write it. -/
@[simp] theorem stackAddress_ne_0xF001 (sp : Byte) : stackAddress sp ≠ 0xF001#16 :=
  stackAddress_ne_port sp

/-- A push stores its byte where SP points, and nowhere else; the console is out of its reach. -/
theorem push8_storesByte (s : State) (v : Byte) :
    StoresByte (stackAddress s.sp) v s (s.push8 v) := by
  refine ⟨by simp, fun other hne => ?_, by simp⟩
  rw [State.push8_mem, Memory.read_write, if_neg hne]

/-- A push of one byte: the store, SP one less modulo 256, and the frame. -/
theorem push8_spec (s : State) (v : Byte) :
    (s.push8 v).sp.toNat = (s.sp.toNat + 255) % 256 ∧
    StoresByte (stackAddress s.sp) v s (s.push8 v) ∧ KeepsAllBut [.sp] [] s (s.push8 v) ∧
    (s.push8 v).pc = s.pc := by
  refine ⟨?_, push8_storesByte s v, keepsAllBut_sp (by simp) (by simp) (by simp) (by simp), by simp⟩
  rw [State.push8_sp]
  bv_omega

/-- A pull of one byte: SP one more modulo 256, the byte read there, and the frame. -/
theorem pull8_spec (s : State) :
    s.pull8.2.sp.toNat = (s.sp.toNat + 1) % 256 ∧
    s.pull8.1 = s.readByte (stackAddress s.pull8.2.sp) ∧ KeepsAllBut [.sp] [] s s.pull8.2 ∧
    KeepsMemory s s.pull8.2 ∧ s.pull8.2.pc = s.pc :=
  ⟨BitVec.toNat_add s.sp 1, rfl, keepsAllBut_sp rfl rfl rfl rfl, ⟨fun _ => rfl, rfl⟩, rfl⟩

/-- The word a 16-bit pull answers: the byte pulled first is its low byte. -/
theorem pull16_toNat (s : State) :
    s.pull16.1.toNat = s.pull8.1.toNat + 256 * s.pull8.2.pull8.1.toNat := by
  have hword : s.pull16.1 = Word.ofBytes s.pull8.2.pull8.1 s.pull8.1 := rfl
  rw [hword, Word.ofBytes_toNat]
  omega

/-- Settles O16, from what each primitive does to SP, the stored byte and the frame. -/
theorem stackPrimitives : Obligations.StackPrimitives :=
  ⟨stackAddress_toNat, push8_spec, pull8_spec, fun _ _ => rfl,
    fun s => ⟨pull16_toNat s, rfl⟩⟩

end Sys2Proof.Machine
end

section
/-!
PROOFS. The lawful states (10_state.md R33, R34, R41): every shared operation keeps the state
lawful, so every instruction, every step and every call of the host does. Three facts carry it: a
store keeps the image's canonical form, no flag computation writes Break or Unused, and a status
that PLP or RTI restores has Break clear and Unused set.
-/

namespace Sys2Proof.Machine

theorem State.lawful_iff (s : State) :
    s.lawful = true ↔ s.mem.wf = true ∧ getFlag s.p .b = false ∧ getFlag s.p .u = true := by
  simp [State.lawful, and_assoc]

/-! ## The register writes -/

@[simp] theorem lawful_setA (s : State) (v : Byte) : (s.setA v).lawful = s.lawful := rfl
@[simp] theorem lawful_setX (s : State) (v : Byte) : (s.setX v).lawful = s.lawful := rfl
@[simp] theorem lawful_setY (s : State) (v : Byte) : (s.setY v).lawful = s.lawful := rfl
@[simp] theorem lawful_setSp (s : State) (v : Byte) : (s.setSp v).lawful = s.lawful := rfl
@[simp] theorem lawful_setPc (s : State) (v : Word) : (s.setPc v).lawful = s.lawful := rfl

@[simp] theorem lawful_passInstr (s : State) (i : Instr) : (s.passInstr i).lawful = s.lawful := rfl

/-- A status with the Break and Unused of the old one is as lawful as the old one. -/
theorem lawful_setP_of_keeps {s : State} {q : Byte} (hb : getFlag q .b = getFlag s.p .b)
    (hu : getFlag q .u = getFlag s.p .u) : (s.setP q).lawful = s.lawful := by
  simp [State.lawful, hb, hu]

/-- A restored status is lawful, whatever status stood in P. -/
theorem lawful_setP_restoredStatus {s : State} (v : Byte) (h : s.lawful = true) :
    (s.setP (restoredStatus v)).lawful = true := by
  obtain ⟨hwf, -, -⟩ := s.lawful_iff.mp h
  exact (State.lawful_iff _).mpr ⟨hwf, by simp, by simp⟩

@[simp] theorem lawful_setZN (s : State) (r : Byte) : (s.setZN r).lawful = s.lawful :=
  lawful_setP_of_keeps (by simp) (by simp)

/-- Writing a flag other than Break and Unused. -/
theorem lawful_setFlag (s : State) {f : Flag} (on : Bool) (hb : f ≠ .b) (hu : f ≠ .u) :
    (s.setFlag f on).lawful = s.lawful :=
  lawful_setP_of_keeps (by simp [hb.symm]) (by simp [hu.symm])

/-! ## The gates, the stack and the trap -/

@[simp] theorem lawful_writeByte {s : State} (ea : Word) (v : Byte) (h : s.lawful = true) :
    (s.writeByte ea v).lawful = true := by
  obtain ⟨hwf, hb, hu⟩ := s.lawful_iff.mp h
  exact (State.lawful_iff _).mpr ⟨s.writeByte_mem_wf ea v hwf, by simpa using hb, by simpa using hu⟩

@[simp] theorem lawful_push8 {s : State} (v : Byte) (h : s.lawful = true) :
    (s.push8 v).lawful = true := by
  simp [State.push8, h]

@[simp] theorem lawful_push16 {s : State} (w : Word) (h : s.lawful = true) :
    (s.push16 w).lawful = true := by
  simp [State.push16, h]

@[simp] theorem lawful_pull8 (s : State) : s.pull8.2.lawful = s.lawful := rfl

@[simp] theorem lawful_pull16 (s : State) : s.pull16.2.lawful = s.lawful := rfl

@[simp] theorem lawful_enterTrap {s : State} (w vector : Word) (h : s.lawful = true) :
    (s.enterTrap w vector).lawful = true := by
  simp [State.enterTrap, lawful_setFlag, h]

@[simp] theorem lawful_returnFromTrap {s : State} (h : s.lawful = true) :
    s.returnFromTrap.lawful = true := by
  simp [State.returnFromTrap, lawful_setP_restoredStatus, h]

/-! ## The operations of the instructions -/

@[simp] theorem lawful_addToA (m : Byte) (s : State) : (addToA m s).lawful = s.lawful :=
  lawful_setP_of_keeps (getFlag_addWithCarry s.a m s.p .b) (getFlag_addWithCarry s.a m s.p .u)

@[simp] theorem lawful_adc (m : Byte) (s : State) : (adc m s).lawful = s.lawful := lawful_addToA m s

@[simp] theorem lawful_sbc (m : Byte) (s : State) : (sbc m s).lawful = s.lawful := lawful_addToA _ s

@[simp] theorem lawful_compareReg (r m : Byte) (s : State) :
    (compareReg r m s).lawful = s.lawful :=
  lawful_setP_of_keeps (getFlag_compareStatus r m s.p .b) (getFlag_compareStatus r m s.p .u)

@[simp] theorem lawful_bitTest (m : Byte) (s : State) : (bitTest m s).lawful = s.lawful :=
  lawful_setP_of_keeps (getFlag_bitStatus s.a m s.p .b) (getFlag_bitStatus s.a m s.p .u)

@[simp] theorem lawful_logicToA (r : Byte) (s : State) : (logicToA r s).lawful = s.lawful := by
  simp [logicToA]

@[simp] theorem lawful_inc {s : State} (ea : Word) (h : s.lawful = true) :
    (inc ea s).lawful = true := by
  simp [inc, h]

@[simp] theorem lawful_dec {s : State} (ea : Word) (h : s.lawful = true) :
    (dec ea s).lawful = true := by
  simp [dec, h]

@[simp] theorem lawful_branch (taken : Bool) (d : Byte) (s : State) :
    (branch taken d s).lawful = s.lawful := by
  cases taken <;> rfl

@[simp] theorem lawful_callSubroutine {s : State} (target : Word) (h : s.lawful = true) :
    (callSubroutine target s).lawful = true := by
  simp [callSubroutine, h]

@[simp] theorem lawful_returnFromSubroutine (s : State) :
    (returnFromSubroutine s).lawful = s.lawful := rfl

@[simp] theorem lawful_lda (m : Byte) (s : State) : (lda m s).lawful = s.lawful := by simp [lda]
@[simp] theorem lawful_ldx (m : Byte) (s : State) : (ldx m s).lawful = s.lawful := by simp [ldx]
@[simp] theorem lawful_ldy (m : Byte) (s : State) : (ldy m s).lawful = s.lawful := by simp [ldy]

@[simp] theorem lawful_sta {s : State} (ea : Word) (h : s.lawful = true) :
    (sta ea s).lawful = true := lawful_writeByte ea s.a h

@[simp] theorem lawful_stx {s : State} (ea : Word) (h : s.lawful = true) :
    (stx ea s).lawful = true := lawful_writeByte ea s.x h

@[simp] theorem lawful_sty {s : State} (ea : Word) (h : s.lawful = true) :
    (sty ea s).lawful = true := lawful_writeByte ea s.y h

@[simp] theorem lawful_shiftA (f : Byte → Bool → Byte × Bool) (s : State) :
    (shiftA f s).lawful = s.lawful :=
  lawful_setP_of_keeps (getFlag_shiftStatus _ s.p .b) (getFlag_shiftStatus _ s.p .u)

@[simp] theorem lawful_shiftMemory {s : State} (f : Byte → Bool → Byte × Bool) (ea : Word)
    (h : s.lawful = true) : (shiftMemory f ea s).lawful = true := by
  unfold shiftMemory
  rw [lawful_setP_of_keeps (by simp [getFlag_shiftStatus]) (by simp [getFlag_shiftStatus])]
  exact lawful_writeByte ea _ h

@[simp] theorem lawful_pullA (s : State) : (pullA s).lawful = s.lawful := by simp [pullA]

@[simp] theorem lawful_pullStatus {s : State} (h : s.lawful = true) :
    (pullStatus s).lawful = true := lawful_setP_restoredStatus _ h

@[simp] theorem lawful_inertNoOp (s : State) : (inertNoOp s).lawful = s.lawful := rfl

/-! ## The instruction, the step and the host's calls -/

/-- Every instruction completes, and from a lawful state in a lawful one: each constructor's meaning
is one of the operations above. -/
theorem exec_completes_lawful (i : Instr) {s : State} (h : s.lawful = true) :
    Completes i s fun t => t.lawful = true := by
  cases i <;> exact ⟨_, rfl, by simp [lawful_setFlag, h]⟩

/-- R222: from a lawful state the step answers a lawful next state. -/
theorem step_completes_lawful {s : State} (h : s.lawful = true) :
    ∃ t, step s = .next t ∧ t.lawful = true :=
  exec_completes_lawful s.fetch (by simpa using h)

/-- Reset leaves the image as it was and takes a fixed lawful status. -/
theorem lawful_resetEngine {s : State} (h : s.mem.wf = true) : s.resetEngine.lawful = true :=
  have hb : getFlag Config.resetStatus .b = false := by decide
  have hu : getFlag Config.resetStatus .u = true := by decide
  (State.lawful_iff _).mpr ⟨h, hb, hu⟩

theorem lawful_hostWrite {s : State} (ea : Word) (v : Byte) (h : s.lawful = true) :
    (s.hostWrite ea v).lawful = true := by
  obtain ⟨hwf, hb, hu⟩ := s.lawful_iff.mp h
  exact (State.lawful_iff _).mpr ⟨Memory.wf_write s.mem ea v hwf, hb, hu⟩

/-- The loader's procedure needs no lawful state before it: it replaces the image and resets. -/
theorem lawful_load (s : State) (code : List Byte) (start : Word) :
    (s.load code start).lawful = true :=
  lawful_resetEngine (loadedImage_wf code start)

/-- R213: each call of the host completes and keeps the state lawful. -/
theorem perform_completes_lawful (call : HostCall) {s : State} (h : s.lawful = true) :
    ∃ t, call.perform s = .next t ∧ t.lawful = true := by
  cases call with
  | reset => exact ⟨_, rfl, lawful_resetEngine (s.lawful_iff.mp h).1⟩
  | step => exact step_completes_lawful h
  | write ea v => exact ⟨_, rfl, lawful_hostWrite ea v h⟩
  | load code start => exact ⟨_, rfl, lawful_load s code start⟩

/-- A schedule whose first call completes goes on from the state that call leaves. -/
theorem runSchedule_cons_of_next {call : HostCall} {s t : State} (calls : List HostCall)
    (h : call.perform s = .next t) : runSchedule (call :: calls) s = runSchedule calls t := by
  simp only [runSchedule, h]

/-- Settles O53, by induction on the schedule: each call hands a lawful state to the next. -/
theorem everyScheduleStaysLawful : Obligations.EveryScheduleStaysLawful := by
  intro calls
  induction calls with
  | nil => exact fun s h => ⟨s, rfl, h⟩
  | cons call calls ih =>
    intro s h
    obtain ⟨t, hcall, ht⟩ := perform_completes_lawful call h
    rw [runSchedule_cons_of_next calls hcall]
    exact ih t ht

end Sys2Proof.Machine
end

section
/-!
PROOFS. The lawful states and reset (10_state.md section 4, 70_reset_and_hazards.md R39): what a
step that answers a next state leaves, and what `reset()` leaves.
-/

namespace Sys2Proof.Machine

/-- Settles O9: the step of a lawful state answers one state, and that one is lawful. -/
theorem stepKeepsLawful : Obligations.StepKeepsLawful := by
  intro s t hs hstep
  obtain ⟨u, hu, hlawful⟩ := step_completes_lawful hs
  obtain rfl : t = u := Host.Outcome.next.inj (hstep.symm.trans hu)
  exact hlawful

/-- The high byte of the reset vector stands after its low byte (R54). -/
theorem resetVector_succ : Config.resetVector + 1 = 0xFFFD#16 := by decide

theorem read16_resetVector (s : State) :
    s.read16 Config.resetVector = Word.ofBytes (s.readByte 0xFFFD#16) (s.readByte 0xFFFC#16) := by
  rw [State.read16, resetVector_succ]
  rfl

/-- Settles O12: PC is the word of the reset vector, and each other field is the one `reset()`
names. -/
theorem resetState : Obligations.ResetState := by
  intro s
  rw [State.resetEngine, read16_resetVector]
  rfl

end Sys2Proof.Machine
end

section
/-!
PROOFS. What each instruction does, by its mnemonic. The 256 constructors of `Instr` are 56
mnemonics over the addressing modes and 105 no-ops; `exec_eq_effect` brings `exec` to one operation
per mnemonic, so that a statement about every instruction is a case split over the mnemonics.
-/

namespace Sys2Proof.Machine

/-- The operand byte of the read class (R75), 0 for an operand that has none. -/
def operandValue (o : Operand) (s : State) : Byte := (operandByte o s).getD 0

/-- The effective address (R66 to R72), 0 for an operand that names none. -/
def operandPlace (o : Operand) (s : State) : Word := (operandAddress o s).getD 0

/-- The displacement of a branch (R74), 0 for an operand of another mode. -/
def displacement : Operand → Byte
  | .rel d => d
  | _ => 0

/-- Where JMP goes: through its pointer in indirect mode (R70), else to its operand (R68). -/
def jumpTarget : Operand → State → Word
  | .ind ptr, s => eaInd ptr s
  | o, s => operandPlace o s

/-- A shift or rotate: of A in accumulator mode, of the memory byte in every other (R140). -/
def shift (f : Byte → Bool → Byte × Bool) (o : Operand) (s : State) : State :=
  if o = .acc then shiftA f s else shiftMemory f (operandPlace o s) s

theorem shift_of_ne_acc (f : Byte → Bool → Byte × Bool) {o : Operand} (s : State) (ho : o ≠ .acc) :
    shift f o s = shiftMemory f (operandPlace o s) s := if_neg ho

/-- The operation of each mnemonic on an operand. PC has passed the instruction (R25). -/
def operation : Mnemonic → Operand → State → State
  | .adc, o, s => adc (operandValue o s) s
  | .and, o, s => logicToA (s.a &&& operandValue o s) s
  | .asl, o, s => shift aslByte o s
  | .bcc, o, s => branch (getFlag s.p .c == false) (displacement o) s
  | .bcs, o, s => branch (getFlag s.p .c == true) (displacement o) s
  | .beq, o, s => branch (getFlag s.p .z == true) (displacement o) s
  | .bit, o, s => bitTest (operandValue o s) s
  | .bmi, o, s => branch (getFlag s.p .n == true) (displacement o) s
  | .bne, o, s => branch (getFlag s.p .z == false) (displacement o) s
  | .bpl, o, s => branch (getFlag s.p .n == false) (displacement o) s
  | .brk, _, s => s.enterTrap (s.pc + 1) Config.breakVector
  | .bvc, o, s => branch (getFlag s.p .v == false) (displacement o) s
  | .bvs, o, s => branch (getFlag s.p .v == true) (displacement o) s
  | .clc, _, s => s.setFlag .c false
  | .cld, _, s => s.setFlag .d false
  | .cli, _, s => s.setFlag .i false
  | .clv, _, s => s.setFlag .v false
  | .cmp, o, s => compareReg s.a (operandValue o s) s
  | .cpx, o, s => compareReg s.x (operandValue o s) s
  | .cpy, o, s => compareReg s.y (operandValue o s) s
  | .dec, o, s => dec (operandPlace o s) s
  | .dex, _, s => (s.setX (s.x - 1)).setZN (s.x - 1)
  | .dey, _, s => (s.setY (s.y - 1)).setZN (s.y - 1)
  | .eor, o, s => logicToA (s.a ^^^ operandValue o s) s
  | .inc, o, s => inc (operandPlace o s) s
  | .inx, _, s => (s.setX (s.x + 1)).setZN (s.x + 1)
  | .iny, _, s => (s.setY (s.y + 1)).setZN (s.y + 1)
  | .jmp, o, s => s.setPc (jumpTarget o s)
  | .jsr, o, s => callSubroutine (operandPlace o s) s
  | .lda, o, s => lda (operandValue o s) s
  | .ldx, o, s => ldx (operandValue o s) s
  | .ldy, o, s => ldy (operandValue o s) s
  | .lsr, o, s => shift lsrByte o s
  | .nop, _, s => s
  | .ora, o, s => logicToA (s.a ||| operandValue o s) s
  | .pha, _, s => s.push8 s.a
  | .php, _, s => s.push8 (pushedStatus s.p)
  | .pla, _, s => pullA s
  | .plp, _, s => pullStatus s
  | .rol, o, s => shift rolByte o s
  | .ror, o, s => shift rorByte o s
  | .rti, _, s => s.returnFromTrap
  | .rts, _, s => returnFromSubroutine s
  | .sbc, o, s => sbc (operandValue o s) s
  | .sec, _, s => s.setFlag .c true
  | .sed, _, s => s.setFlag .d true
  | .sei, _, s => s.setFlag .i true
  | .sta, o, s => sta (operandPlace o s) s
  | .stx, o, s => stx (operandPlace o s) s
  | .sty, o, s => sty (operandPlace o s) s
  | .tax, _, s => (s.setX s.a).setZN s.a
  | .tay, _, s => (s.setY s.a).setZN s.a
  | .tsx, _, s => (s.setX s.sp).setZN s.sp
  | .txa, _, s => (s.setA s.x).setZN s.x
  | .txs, _, s => s.setSp s.x
  | .tya, _, s => (s.setA s.y).setZN s.y

/-- The effect of an instruction: its mnemonic's operation, and none for an unassigned byte. -/
def effect : Shape → State → State
  | .documented mn o, s => operation mn o s
  | .unassigned _, s => s

theorem effect_documented (mn : Mnemonic) (o : Operand) (s : State) :
    effect (.documented mn o) s = operation mn o s := rfl

theorem effect_unassigned (b : Byte) (s : State) : effect (.unassigned b) s = s := rfl

/-- Every instruction completes, and its meaning is the operation its shape names. -/
theorem exec_eq_effect (i : Instr) (s : State) : exec i s = .next (effect i.shape s) := by
  cases i <;> rfl

theorem eq_effect_of_exec {i : Instr} {s t : State} (h : exec i s = .next t) :
    t = effect i.shape s :=
  Host.Outcome.next.inj (h.symm.trans (exec_eq_effect i s))

end Sys2Proof.Machine
end

section
/-!
PROOFS. Who writes which register and which flag (10_state.md R22 to R24, R27, R29 to R36). Each
operation keeps all but a short list of registers and flags; the list of a composed operation is the
lists of its parts appended, and each mnemonic stands in the spec's list of what it writes.
-/

namespace Sys2Proof.Machine

/-! ## Composing what is kept -/

section
variable {regs regs' : List Reg} {flags flags' : List Flag} {s t u : State}

theorem KeepsAllBut.trans (h : KeepsAllBut regs flags s t) (h' : KeepsAllBut regs' flags' t u) :
    KeepsAllBut (regs ++ regs') (flags ++ flags') s u := by
  constructor
  · intro r hr
    rw [List.mem_append, not_or] at hr
    exact (h'.1 r hr.2).trans (h.1 r hr.1)
  · intro f hf
    rw [List.mem_append, not_or] at hf
    exact (h'.2 f hf.2).trans (h.2 f hf.1)

theorem KeepsAllBut.mono (h : KeepsAllBut regs flags s t) (hr : regs ⊆ regs')
    (hf : flags ⊆ flags') : KeepsAllBut regs' flags' s t :=
  ⟨fun r hn => h.1 r fun hm => hn (hr hm), fun f hn => h.2 f fun hm => hn (hf hm)⟩

end

/-! ## The register writes, the gates and the stack -/

theorem keepsAllBut_refl (s : State) : KeepsAllBut [] [] s s := ⟨fun _ _ => rfl, fun _ _ => rfl⟩

theorem keepsAllBut_setA (s : State) (v : Byte) : KeepsAllBut [.a] [] s (s.setA v) := by
  refine ⟨fun r hr => ?_, fun _ _ => rfl⟩
  cases r with
  | a => simp at hr
  | x | y | sp => rfl

theorem keepsAllBut_setX (s : State) (v : Byte) : KeepsAllBut [.x] [] s (s.setX v) := by
  refine ⟨fun r hr => ?_, fun _ _ => rfl⟩
  cases r with
  | x => simp at hr
  | a | y | sp => rfl

theorem keepsAllBut_setY (s : State) (v : Byte) : KeepsAllBut [.y] [] s (s.setY v) := by
  refine ⟨fun r hr => ?_, fun _ _ => rfl⟩
  cases r with
  | y => simp at hr
  | a | x | sp => rfl

theorem keepsAllBut_setSp (s : State) (v : Byte) : KeepsAllBut [.sp] [] s (s.setSp v) :=
  keepsAllBut_sp rfl rfl rfl rfl

theorem keepsAllBut_setPc (s : State) (v : Word) : KeepsAllBut [] [] s (s.setPc v) := by
  refine ⟨fun r _ => ?_, fun _ _ => rfl⟩
  cases r with
  | a | x | y | sp => rfl

/-- A new status keeps the flags it has in common with the old one. -/
theorem keepsAllBut_setP {flags : List Flag} (s : State) {q : Byte}
    (h : ∀ f, f ∉ flags → getFlag q f = getFlag s.p f) : KeepsAllBut [] flags s (s.setP q) := by
  refine ⟨fun r _ => ?_, h⟩
  cases r with
  | a | x | y | sp => rfl

theorem keepsAllBut_setFlag (s : State) (f : Flag) (on : Bool) :
    KeepsAllBut [] [f] s (s.setFlag f on) :=
  keepsAllBut_setP s fun g hg => by simp [List.mem_singleton.not.mp hg]

theorem keepsAllBut_setZN (s : State) (r : Byte) : KeepsAllBut [] [.z, .n] s (s.setZN r) :=
  keepsAllBut_setP s fun g hg => by
    obtain ⟨hz, hn⟩ : g ≠ .z ∧ g ≠ .n := by simpa using hg
    simp [hz, hn]

theorem keepsAllBut_writeByte (s : State) (ea : Word) (v : Byte) :
    KeepsAllBut [] [] s (s.writeByte ea v) := by
  refine ⟨fun r _ => ?_, fun f _ => by rw [State.writeByte_p]⟩
  cases r with
  | a => exact s.writeByte_a ea v
  | x => exact s.writeByte_x ea v
  | y => exact s.writeByte_y ea v
  | sp => exact s.writeByte_sp ea v

theorem keepsAllBut_push8 (s : State) (v : Byte) : KeepsAllBut [.sp] [] s (s.push8 v) :=
  keepsAllBut_sp (by simp) (by simp) (by simp) (by simp)

theorem keepsAllBut_push16 (s : State) (w : Word) : KeepsAllBut [.sp] [] s (s.push16 w) :=
  keepsAllBut_sp (by simp) (by simp) (by simp) (by simp)

theorem keepsAllBut_pull8 (s : State) : KeepsAllBut [.sp] [] s s.pull8.2 :=
  keepsAllBut_setSp s _

theorem keepsAllBut_pull16 (s : State) : KeepsAllBut [.sp] [] s s.pull16.2 :=
  keepsAllBut_sp rfl rfl rfl rfl

/-! ## The shared operations -/

theorem keepsAllBut_addToA (m : Byte) (s : State) :
    KeepsAllBut [.a] [.c, .z, .v, .n] s (addToA m s) := by
  refine (keepsAllBut_setA s _).trans (keepsAllBut_setP _ fun f hf => ?_)
  refine (getFlag_addWithCarry s.a m s.p f).trans ?_
  cases f with
  | c | z | v | n => simp at hf
  | i | d | b | u => rfl

theorem keepsAllBut_compareReg (r m : Byte) (s : State) :
    KeepsAllBut [] [.c, .z, .n] s (compareReg r m s) := by
  refine keepsAllBut_setP s fun f hf => ?_
  rw [getFlag_compareStatus]
  cases f with
  | c | z | n => simp at hf
  | i | d | b | u | v => rfl

theorem keepsAllBut_bitTest (m : Byte) (s : State) :
    KeepsAllBut [] [.z, .v, .n] s (bitTest m s) := by
  refine keepsAllBut_setP s fun f hf => ?_
  rw [getFlag_bitStatus]
  cases f with
  | z | v | n => simp at hf
  | c | i | d | b | u => rfl

theorem keepsAllBut_setP_shiftStatus (out : Byte × Bool) {p : Byte} (s : State) (hp : s.p = p) :
    KeepsAllBut [] [.c, .z, .n] s (s.setP (shiftStatus out p)) := by
  refine keepsAllBut_setP s fun f hf => ?_
  rw [getFlag_shiftStatus, hp]
  cases f with
  | c | z | n => simp at hf
  | i | d | b | u | v => rfl

theorem keepsAllBut_shiftA (f : Byte → Bool → Byte × Bool) (s : State) :
    KeepsAllBut [.a] [.c, .z, .n] s (shiftA f s) :=
  (keepsAllBut_setA s _).trans (keepsAllBut_setP_shiftStatus _ _ rfl)

theorem keepsAllBut_shiftMemory (f : Byte → Bool → Byte × Bool) (ea : Word) (s : State) :
    KeepsAllBut [] [.c, .z, .n] s (shiftMemory f ea s) :=
  (keepsAllBut_writeByte s ea _).trans (keepsAllBut_setP_shiftStatus _ _ (s.writeByte_p ea _))

theorem keepsAllBut_shift (f : Byte → Bool → Byte × Bool) (o : Operand) (s : State) :
    KeepsAllBut [.a] [.c, .z, .n] s (shift f o s) := by
  unfold shift
  split
  · exact keepsAllBut_shiftA f s
  · exact (keepsAllBut_shiftMemory f _ s).mono (List.nil_subset _) (List.Subset.refl _)

theorem keepsAllBut_logicToA (r : Byte) (s : State) :
    KeepsAllBut [.a] [.z, .n] s (logicToA r s) :=
  (keepsAllBut_setA s r).trans (keepsAllBut_setZN _ r)

theorem keepsAllBut_lda (m : Byte) (s : State) : KeepsAllBut [.a] [.z, .n] s (lda m s) :=
  (keepsAllBut_setA s m).trans (keepsAllBut_setZN _ m)

theorem keepsAllBut_ldx (m : Byte) (s : State) : KeepsAllBut [.x] [.z, .n] s (ldx m s) :=
  (keepsAllBut_setX s m).trans (keepsAllBut_setZN _ m)

theorem keepsAllBut_ldy (m : Byte) (s : State) : KeepsAllBut [.y] [.z, .n] s (ldy m s) :=
  (keepsAllBut_setY s m).trans (keepsAllBut_setZN _ m)

theorem keepsAllBut_inc (ea : Word) (s : State) : KeepsAllBut [] [.z, .n] s (inc ea s) :=
  (keepsAllBut_writeByte s ea _).trans (keepsAllBut_setZN _ _)

theorem keepsAllBut_dec (ea : Word) (s : State) : KeepsAllBut [] [.z, .n] s (dec ea s) :=
  (keepsAllBut_writeByte s ea _).trans (keepsAllBut_setZN _ _)

theorem keepsAllBut_branch (taken : Bool) (d : Byte) (s : State) :
    KeepsAllBut [] [] s (branch taken d s) := by
  cases taken with
  | false => exact keepsAllBut_refl s
  | true => exact keepsAllBut_setPc s _

theorem keepsAllBut_callSubroutine (target : Word) (s : State) :
    KeepsAllBut [.sp] [] s (callSubroutine target s) :=
  (keepsAllBut_push16 s _).trans (keepsAllBut_setPc _ target)

theorem keepsAllBut_returnFromSubroutine (s : State) :
    KeepsAllBut [.sp] [] s (returnFromSubroutine s) :=
  (keepsAllBut_pull16 s).trans (keepsAllBut_setPc _ _)

theorem keepsAllBut_pullA (s : State) : KeepsAllBut [.sp, .a] [.z, .n] s (pullA s) :=
  (keepsAllBut_pull8 s).trans ((keepsAllBut_setA _ _).trans (keepsAllBut_setZN _ _))

/-- The flags a restored status writes: all eight (R173, R184). -/
def allFlags : List Flag := [.c, .z, .i, .d, .b, .u, .v, .n]

theorem mem_allFlags (f : Flag) : f ∈ allFlags := by cases f <;> decide

theorem keepsAllBut_setP_all (s : State) (q : Byte) : KeepsAllBut [] allFlags s (s.setP q) :=
  keepsAllBut_setP s fun f hf => absurd (mem_allFlags f) hf

theorem keepsAllBut_pullStatus (s : State) : KeepsAllBut [.sp] allFlags s (pullStatus s) :=
  (keepsAllBut_pull8 s).trans (keepsAllBut_setP_all _ _)

theorem keepsAllBut_enterTrap (s : State) (w vector : Word) :
    KeepsAllBut [.sp, .sp] [.i] s (s.enterTrap w vector) :=
  (keepsAllBut_push16 s w).trans <| (keepsAllBut_push8 _ _).trans <|
    (keepsAllBut_setFlag _ .i true).trans (keepsAllBut_setPc _ _)

theorem keepsAllBut_returnFromTrap (s : State) :
    KeepsAllBut [.sp, .sp] allFlags s s.returnFromTrap :=
  (keepsAllBut_pull8 s).trans <| (keepsAllBut_setP_all _ _).trans <|
    (keepsAllBut_pull16 _).trans (keepsAllBut_setPc _ _)

/-! ## The spec's lists -/

/-- What changes from `s` to `t` is in the spec's lists of what the mnemonic writes. -/
def ChangesOnlyListed (mn : Mnemonic) (s t : State) : Prop :=
  (∀ r, t.reg r ≠ s.reg r → mn ∈ registerWriters r) ∧
  (∀ f, getFlag t.p f ≠ getFlag s.p f → mn ∈ flagWriters f)

theorem KeepsAllBut.changesOnlyListed {mn : Mnemonic} {regs : List Reg} {flags : List Flag}
    {s t : State} (h : KeepsAllBut regs flags s t) (hr : ∀ r ∈ regs, mn ∈ registerWriters r)
    (hf : ∀ f ∈ flags, mn ∈ flagWriters f) : ChangesOnlyListed mn s t :=
  ⟨fun r hne => hr r (not_not.mp fun hn => hne (h.1 r hn)),
    fun f hne => hf f (not_not.mp fun hn => hne (h.2 f hn))⟩

/-- The operation of each mnemonic changes only what the spec lists for it. -/
theorem operation_changesOnlyListed (mn : Mnemonic) (o : Operand) (s : State) :
    ChangesOnlyListed mn s (operation mn o s) := by
  cases mn with
  | lda => exact (keepsAllBut_lda _ s).changesOnlyListed (by decide) (by decide)
  | ldx => exact (keepsAllBut_ldx _ s).changesOnlyListed (by decide) (by decide)
  | ldy => exact (keepsAllBut_ldy _ s).changesOnlyListed (by decide) (by decide)
  | sta | stx | sty =>
    exact (keepsAllBut_writeByte s _ _).changesOnlyListed (by decide) (by decide)
  | txa | tya =>
    exact ((keepsAllBut_setA s _).trans (keepsAllBut_setZN _ _)).changesOnlyListed
      (by decide) (by decide)
  | tax | tsx | inx | dex =>
    exact ((keepsAllBut_setX s _).trans (keepsAllBut_setZN _ _)).changesOnlyListed
      (by decide) (by decide)
  | tay | iny | dey =>
    exact ((keepsAllBut_setY s _).trans (keepsAllBut_setZN _ _)).changesOnlyListed
      (by decide) (by decide)
  | txs => exact (keepsAllBut_setSp s _).changesOnlyListed (by decide) (by decide)
  | adc | sbc => exact (keepsAllBut_addToA _ s).changesOnlyListed (by decide) (by decide)
  | cmp | cpx | cpy =>
    exact (keepsAllBut_compareReg _ _ s).changesOnlyListed (by decide) (by decide)
  | and | ora | eor => exact (keepsAllBut_logicToA _ s).changesOnlyListed (by decide) (by decide)
  | bit => exact (keepsAllBut_bitTest _ s).changesOnlyListed (by decide) (by decide)
  | inc => exact (keepsAllBut_inc _ s).changesOnlyListed (by decide) (by decide)
  | dec => exact (keepsAllBut_dec _ s).changesOnlyListed (by decide) (by decide)
  | asl | lsr | rol | ror =>
    exact (keepsAllBut_shift _ o s).changesOnlyListed (by decide) (by decide)
  | bcc | bcs | beq | bne | bmi | bpl | bvc | bvs =>
    exact (keepsAllBut_branch _ _ s).changesOnlyListed (by decide) (by decide)
  | jmp => exact (keepsAllBut_setPc s _).changesOnlyListed (by decide) (by decide)
  | jsr => exact (keepsAllBut_callSubroutine _ s).changesOnlyListed (by decide) (by decide)
  | rts => exact (keepsAllBut_returnFromSubroutine s).changesOnlyListed (by decide) (by decide)
  | pha | php => exact (keepsAllBut_push8 s _).changesOnlyListed (by decide) (by decide)
  | pla => exact (keepsAllBut_pullA s).changesOnlyListed (by decide) (by decide)
  | plp => exact (keepsAllBut_pullStatus s).changesOnlyListed (by decide) (by decide)
  | clc | sec | cli | sei | clv | cld | sed =>
    exact (keepsAllBut_setFlag s _ _).changesOnlyListed (by decide) (by decide)
  | nop => exact (keepsAllBut_refl s).changesOnlyListed (by decide) (by decide)
  | brk => exact (keepsAllBut_enterTrap s _ _).changesOnlyListed (by decide) (by decide)
  | rti => exact (keepsAllBut_returnFromTrap s).changesOnlyListed (by decide) (by decide)

/-- A shift or rotate of a memory byte keeps A (R140). -/
theorem operation_a_of_shiftMemory {mn : Mnemonic} {o : Operand} (s : State)
    (hmn : mn ∈ [Mnemonic.asl, .lsr, .rol, .ror]) (ho : o ≠ .acc) :
    (operation mn o s).reg .a = s.reg .a := by
  have keepsA : ∀ f, (shift f o s).reg .a = s.reg .a := fun f => by
    rw [shift_of_ne_acc f s ho]
    exact (keepsAllBut_shiftMemory f _ s).1 .a List.not_mem_nil
  simp only [List.mem_cons, List.not_mem_nil, or_false] at hmn
  obtain rfl | rfl | rfl | rfl := hmn
  · exact keepsA aslByte
  · exact keepsA lsrByte
  · exact keepsA rolByte
  · exact keepsA rorByte

/-- Settles O47: what the operation of an instruction's mnemonic changes is listed, and a shift that
changes A is not one of a memory byte. -/
theorem registerWritersOnly : Obligations.RegisterWritersOnly := by
  intro i s t r hexec hne
  rw [eq_effect_of_exec hexec] at hne
  cases hshape : i.shape with
  | unassigned b => exact absurd (by rw [hshape, effect_unassigned]) hne
  | documented mn o =>
    rw [hshape, effect_documented] at hne
    refine ⟨mn, o, rfl, (operation_changesOnlyListed mn o s).1 r hne, ?_⟩
    rintro rfl hmn
    by_contra ho
    exact hne (operation_a_of_shiftMemory s hmn ho)

/-- From a lawful state no instruction changes Break or Unused: the next state is lawful too. -/
theorem exec_keeps_break_unused {i : Instr} {s t : State} (hs : s.lawful = true)
    (hexec : exec i s = .next t) {f : Flag} (hf : f = .b ∨ f = .u) :
    getFlag t.p f = getFlag s.p f := by
  obtain ⟨u, hu, hlawful⟩ := exec_completes_lawful i hs
  obtain rfl : t = u := Host.Outcome.next.inj (hexec.symm.trans hu)
  obtain ⟨-, hsb, hsu⟩ := s.lawful_iff.mp hs
  obtain ⟨-, htb, htu⟩ := t.lawful_iff.mp hlawful
  obtain rfl | rfl := hf
  · rw [hsb, htb]
  · rw [hsu, htu]

/-- Settles O48: the flags an operation changes are listed for its mnemonic, and Break and Unused
have the same value in all lawful states. -/
theorem flagWritersOnly : Obligations.FlagWritersOnly := by
  intro i s t f hexec hne
  refine ⟨?_, fun hf => ?_⟩
  · rw [eq_effect_of_exec hexec] at hne
    cases hshape : i.shape with
    | unassigned b => exact absurd (by rw [hshape, effect_unassigned]) hne
    | documented mn o =>
      rw [hshape, effect_documented] at hne
      exact ⟨mn, o, rfl, (operation_changesOnlyListed mn o s).2 f hne⟩
  · by_contra hs
    exact hne (exec_keeps_break_unused (Bool.of_not_eq_false hs) hexec hf)

end Sys2Proof.Machine
end

section
/-!
PROOFS. Interrupt-disable and Decimal are stored only (10_state.md R31, R32, R137). Two states that
differ in one of them only go to two such states by every operation that does not push the status:
no address, no operand byte and no branch condition reads that flag, and every computed flag is
written alike on both sides.
-/

namespace Sys2Proof.Machine

/-! ## States that differ in one flag -/

/-- `t` has the registers, memory and console of `s`, and every flag but perhaps `f`. -/
def DiffersOnlyIn (f : Flag) (s t : State) : Prop :=
  t = s.setP t.p ∧ ∀ g, g ≠ f → getFlag t.p g = getFlag s.p g

/-- Two status bytes with the same flags but perhaps `f`. -/
def AgreeBut (f : Flag) (p q : Byte) : Prop := ∀ g, g ≠ f → getFlag q g = getFlag p g

theorem differsOnlyIn_setP {f : Flag} {p q : Byte} (s : State) (h : AgreeBut f p q) :
    DiffersOnlyIn f (s.setP p) (s.setP q) := ⟨rfl, h⟩

theorem differsOnlyIn_refl (f : Flag) (s : State) : DiffersOnlyIn f s s := ⟨rfl, fun _ _ => rfl⟩

theorem differsOnlyIn_setFlag (f : Flag) (on : Bool) (s : State) :
    DiffersOnlyIn f s (s.setFlag f on) := ⟨rfl, fun g hg => by simp [hg]⟩

section
variable {f : Flag} {p q : Byte}

theorem AgreeBut.setFlag (h : AgreeBut f p q) (g : Flag) (on : Bool) :
    AgreeBut f (setFlag p g on) (setFlag q g on) := fun k hk => by
  rw [getFlag_setFlag, getFlag_setFlag, h k hk]

theorem AgreeBut.setZN (h : AgreeBut f p q) (r : Byte) : AgreeBut f (setZN r p) (setZN r q) :=
  (h.setFlag .z _).setFlag .n _

theorem AgreeBut.addWithCarry (h : AgreeBut f p q) (hc : .c ≠ f) (a m : Byte) :
    (addWithCarry a m q).1 = (addWithCarry a m p).1 ∧
    AgreeBut f (addWithCarry a m p).2 (addWithCarry a m q).2 := by
  unfold Machine.addWithCarry
  rw [h .c hc]
  exact ⟨rfl, ((h.setFlag .c _).setFlag .v _).setZN _⟩

theorem AgreeBut.compareStatus (h : AgreeBut f p q) (r m : Byte) :
    AgreeBut f (compareStatus r m p) (compareStatus r m q) :=
  (h.setFlag .c _).setZN _

theorem AgreeBut.bitStatus (h : AgreeBut f p q) (a m : Byte) :
    AgreeBut f (bitStatus a m p) (bitStatus a m q) :=
  ((h.setFlag .z _).setFlag .n _).setFlag .v _

theorem AgreeBut.shiftStatus (h : AgreeBut f p q) (out : Byte × Bool) :
    AgreeBut f (shiftStatus out p) (shiftStatus out q) :=
  (h.setFlag .c _).setZN _

end

/-! ## The state operations keep the relation -/

theorem State.writeByte_setP (s : State) (q : Byte) (ea : Word) (v : Byte) :
    (s.setP q).writeByte ea v = (s.writeByte ea v).setP q := by
  unfold State.writeByte
  split <;> rfl

section
variable {f : Flag} {s t : State}

/-- Two states in the relation are one state with two statuses. -/
theorem differsOnlyIn_iff : DiffersOnlyIn f s t ↔ ∃ q, t = s.setP q ∧ AgreeBut f s.p q := by
  constructor
  · exact fun ⟨heq, hflags⟩ => ⟨t.p, heq, hflags⟩
  · rintro ⟨q, rfl, hflags⟩
    exact ⟨rfl, hflags⟩

theorem DiffersOnlyIn.setZN (h : DiffersOnlyIn f s t) (r : Byte) :
    DiffersOnlyIn f (s.setZN r) (t.setZN r) := by
  obtain ⟨q, rfl, hq⟩ := differsOnlyIn_iff.mp h
  exact differsOnlyIn_setP s (hq.setZN r)

theorem DiffersOnlyIn.setFlag (h : DiffersOnlyIn f s t) (g : Flag) (on : Bool) :
    DiffersOnlyIn f (s.setFlag g on) (t.setFlag g on) := by
  obtain ⟨q, rfl, hq⟩ := differsOnlyIn_iff.mp h
  exact differsOnlyIn_setP s (hq.setFlag g on)

theorem DiffersOnlyIn.setA (h : DiffersOnlyIn f s t) (v : Byte) :
    DiffersOnlyIn f (s.setA v) (t.setA v) := by
  obtain ⟨q, rfl, hq⟩ := differsOnlyIn_iff.mp h
  exact ⟨rfl, hq⟩

theorem DiffersOnlyIn.setX (h : DiffersOnlyIn f s t) (v : Byte) :
    DiffersOnlyIn f (s.setX v) (t.setX v) := by
  obtain ⟨q, rfl, hq⟩ := differsOnlyIn_iff.mp h
  exact ⟨rfl, hq⟩

theorem DiffersOnlyIn.setY (h : DiffersOnlyIn f s t) (v : Byte) :
    DiffersOnlyIn f (s.setY v) (t.setY v) := by
  obtain ⟨q, rfl, hq⟩ := differsOnlyIn_iff.mp h
  exact ⟨rfl, hq⟩

theorem DiffersOnlyIn.setSp (h : DiffersOnlyIn f s t) (v : Byte) :
    DiffersOnlyIn f (s.setSp v) (t.setSp v) := by
  obtain ⟨q, rfl, hq⟩ := differsOnlyIn_iff.mp h
  exact ⟨rfl, hq⟩

theorem DiffersOnlyIn.setPc (h : DiffersOnlyIn f s t) (v : Word) :
    DiffersOnlyIn f (s.setPc v) (t.setPc v) := by
  obtain ⟨q, rfl, hq⟩ := differsOnlyIn_iff.mp h
  exact ⟨rfl, hq⟩

theorem DiffersOnlyIn.writeByte (h : DiffersOnlyIn f s t) (ea : Word) (v : Byte) :
    DiffersOnlyIn f (s.writeByte ea v) (t.writeByte ea v) := by
  obtain ⟨q, rfl, hq⟩ := differsOnlyIn_iff.mp h
  rw [State.writeByte_setP]
  exact differsOnlyIn_iff.mpr ⟨q, rfl, by rwa [State.writeByte_p]⟩

/-! ## The shared operations keep it -/

theorem DiffersOnlyIn.addToA (h : DiffersOnlyIn f s t) (hc : .c ≠ f) (m : Byte) :
    DiffersOnlyIn f (addToA m s) (addToA m t) := by
  obtain ⟨q, rfl, hq⟩ := differsOnlyIn_iff.mp h
  obtain ⟨hsum, hflags⟩ := hq.addWithCarry hc s.a m
  simp only [Machine.addToA, State.setP_a, State.setP_p, hsum]
  exact differsOnlyIn_setP (s.setA _) hflags

theorem DiffersOnlyIn.compareReg (h : DiffersOnlyIn f s t) (r m : Byte) :
    DiffersOnlyIn f (compareReg r m s) (compareReg r m t) := by
  obtain ⟨q, rfl, hq⟩ := differsOnlyIn_iff.mp h
  exact differsOnlyIn_setP s (hq.compareStatus r m)

theorem DiffersOnlyIn.bitTest (h : DiffersOnlyIn f s t) (m : Byte) :
    DiffersOnlyIn f (bitTest m s) (bitTest m t) := by
  obtain ⟨q, rfl, hq⟩ := differsOnlyIn_iff.mp h
  exact differsOnlyIn_setP s (hq.bitStatus s.a m)

theorem DiffersOnlyIn.logicToA (h : DiffersOnlyIn f s t) (r : Byte) :
    DiffersOnlyIn f (logicToA r s) (logicToA r t) := (h.setA r).setZN r

theorem DiffersOnlyIn.inc (h : DiffersOnlyIn f s t) (ea : Word) :
    DiffersOnlyIn f (inc ea s) (inc ea t) := by
  obtain ⟨q, rfl, -⟩ := differsOnlyIn_iff.mp h
  exact (h.writeByte ea _).setZN _

theorem DiffersOnlyIn.dec (h : DiffersOnlyIn f s t) (ea : Word) :
    DiffersOnlyIn f (dec ea s) (dec ea t) := by
  obtain ⟨q, rfl, -⟩ := differsOnlyIn_iff.mp h
  exact (h.writeByte ea _).setZN _

/-- A shift reads the old carry, which is the same on both sides. -/
theorem DiffersOnlyIn.shiftA (h : DiffersOnlyIn f s t) (hc : .c ≠ f)
    (fn : Byte → Bool → Byte × Bool) : DiffersOnlyIn f (shiftA fn s) (shiftA fn t) := by
  obtain ⟨q, rfl, hq⟩ := differsOnlyIn_iff.mp h
  simp only [Machine.shiftA, State.setP_a, State.setP_p, hq .c hc]
  exact differsOnlyIn_setP (s.setA _) (hq.shiftStatus _)

theorem DiffersOnlyIn.shiftMemory (h : DiffersOnlyIn f s t) (hc : .c ≠ f)
    (fn : Byte → Bool → Byte × Bool) (ea : Word) :
    DiffersOnlyIn f (shiftMemory fn ea s) (shiftMemory fn ea t) := by
  obtain ⟨q, rfl, hq⟩ := differsOnlyIn_iff.mp h
  simp only [Machine.shiftMemory, State.readByte_setP, State.setP_p, hq .c hc,
    State.writeByte_setP]
  exact differsOnlyIn_setP (s.writeByte ea _) (hq.shiftStatus _)

theorem DiffersOnlyIn.branch (h : DiffersOnlyIn f s t) (taken : Bool) (d : Byte) :
    DiffersOnlyIn f (branch taken d s) (branch taken d t) := by
  obtain ⟨q, rfl, -⟩ := differsOnlyIn_iff.mp h
  cases taken with
  | false => exact h
  | true => exact h.setPc _

theorem DiffersOnlyIn.push8 (h : DiffersOnlyIn f s t) (v : Byte) :
    DiffersOnlyIn f (s.push8 v) (t.push8 v) := by
  obtain ⟨q, rfl, -⟩ := differsOnlyIn_iff.mp h
  exact (h.writeByte _ v).setSp _

theorem DiffersOnlyIn.push16 (h : DiffersOnlyIn f s t) (w : Word) :
    DiffersOnlyIn f (s.push16 w) (t.push16 w) := (h.push8 _).push8 _

theorem DiffersOnlyIn.callSubroutine (h : DiffersOnlyIn f s t) (target : Word) :
    DiffersOnlyIn f (callSubroutine target s) (callSubroutine target t) := by
  obtain ⟨q, rfl, -⟩ := differsOnlyIn_iff.mp h
  exact (h.push16 _).setPc target

theorem DiffersOnlyIn.returnFromSubroutine (h : DiffersOnlyIn f s t) :
    DiffersOnlyIn f (returnFromSubroutine s) (returnFromSubroutine t) := by
  obtain ⟨q, rfl, -⟩ := differsOnlyIn_iff.mp h
  exact ((h.setSp _).setSp _).setPc _

theorem DiffersOnlyIn.pullA (h : DiffersOnlyIn f s t) : DiffersOnlyIn f (pullA s) (pullA t) := by
  obtain ⟨q, rfl, -⟩ := differsOnlyIn_iff.mp h
  exact ((h.setSp _).setA _).setZN _

end

/-- PLP takes the whole status from the stack, whatever stood in P before. -/
theorem pullStatus_setP (s : State) (q : Byte) : pullStatus (s.setP q) = pullStatus s := rfl

/-- RTI takes the whole status from the stack, whatever stood in P before. -/
theorem returnFromTrap_setP (s : State) (q : Byte) :
    (s.setP q).returnFromTrap = s.returnFromTrap := rfl

/-! ## The operands do not read P -/

theorem operandAddress_setP (o : Operand) (s : State) (q : Byte) :
    operandAddress o (s.setP q) = operandAddress o s := by
  cases o <;> rfl

theorem operandPlace_setP (o : Operand) (s : State) (q : Byte) :
    operandPlace o (s.setP q) = operandPlace o s :=
  congrArg (Option.getD · 0) (operandAddress_setP o s q)

theorem operandValue_setP (o : Operand) (s : State) (q : Byte) :
    operandValue o (s.setP q) = operandValue o s := by
  cases o <;> rfl

theorem jumpTarget_setP (o : Operand) (s : State) (q : Byte) :
    jumpTarget o (s.setP q) = jumpTarget o s := by
  cases o <;> rfl

theorem DiffersOnlyIn.shift {f : Flag} {s t : State} (h : DiffersOnlyIn f s t) (hc : .c ≠ f)
    (fn : Byte → Bool → Byte × Bool) (o : Operand) :
    DiffersOnlyIn f (shift fn o s) (shift fn o t) := by
  obtain ⟨q, rfl, -⟩ := differsOnlyIn_iff.mp h
  unfold Machine.shift
  split
  · exact h.shiftA hc fn
  · rw [operandPlace_setP]
    exact h.shiftMemory hc fn _

/-! ## Every operation but PHP's and BRK's -/

/-- A flag that an operation reads is not one of the two that are stored only (R31, R32). -/
theorem ne_of_storedOnly {f g : Flag} (hf : f ∈ [Flag.i, .d]) (hg : g ∉ [Flag.i, .d]) : g ≠ f :=
  fun h => hg (h ▸ hf)

/-- Every operation but PHP's and BRK's, which push the status, takes two states that differ in a
stored-only flag to two such states. -/
theorem operation_differsOnlyIn {f : Flag} (hf : f ∈ [Flag.i, .d]) {mn : Mnemonic}
    (hphp : mn ≠ .php) (hbrk : mn ≠ .brk) (o : Operand) {s t : State} (h : DiffersOnlyIn f s t) :
    DiffersOnlyIn f (operation mn o s) (operation mn o t) := by
  obtain ⟨q, rfl, hq⟩ := differsOnlyIn_iff.mp h
  have hc : .c ≠ f := ne_of_storedOnly hf (by decide)
  have hz : .z ≠ f := ne_of_storedOnly hf (by decide)
  have hv : .v ≠ f := ne_of_storedOnly hf (by decide)
  have hn : .n ≠ f := ne_of_storedOnly hf (by decide)
  cases mn with
  | php => exact absurd rfl hphp
  | brk => exact absurd rfl hbrk
  | lda => simp only [operation, operandValue_setP]; exact (h.setA _).setZN _
  | ldx => simp only [operation, operandValue_setP]; exact (h.setX _).setZN _
  | ldy => simp only [operation, operandValue_setP]; exact (h.setY _).setZN _
  | sta | stx | sty => simp only [operation, operandPlace_setP]; exact h.writeByte _ _
  | txa | tya => exact (h.setA _).setZN _
  | tax | tsx | inx | dex => exact (h.setX _).setZN _
  | tay | iny | dey => exact (h.setY _).setZN _
  | txs => exact h.setSp _
  | adc | sbc => simp only [operation, operandValue_setP]; exact h.addToA hc _
  | cmp | cpx | cpy => simp only [operation, operandValue_setP]; exact h.compareReg _ _
  | and | ora | eor => simp only [operation, operandValue_setP]; exact h.logicToA _
  | bit => simp only [operation, operandValue_setP]; exact h.bitTest _
  | inc => simp only [operation, operandPlace_setP]; exact h.inc _
  | dec => simp only [operation, operandPlace_setP]; exact h.dec _
  | asl | lsr | rol | ror => exact h.shift hc _ o
  | bcc | bcs => simp only [operation, State.setP_p, hq .c hc]; exact h.branch _ _
  | beq | bne => simp only [operation, State.setP_p, hq .z hz]; exact h.branch _ _
  | bmi | bpl => simp only [operation, State.setP_p, hq .n hn]; exact h.branch _ _
  | bvc | bvs => simp only [operation, State.setP_p, hq .v hv]; exact h.branch _ _
  | jmp => simp only [operation, jumpTarget_setP]; exact h.setPc _
  | jsr => simp only [operation, operandPlace_setP]; exact h.callSubroutine _
  | rts => exact h.returnFromSubroutine
  | pha => exact h.push8 _
  | pla => exact h.pullA
  | plp => simp only [operation, pullStatus_setP]; exact differsOnlyIn_refl f _
  | rti => simp only [operation, returnFromTrap_setP]; exact differsOnlyIn_refl f _
  | clc | sec | cli | sei | clv | cld | sed => exact h.setFlag _ _
  | nop => exact h

theorem mnemonicOf_of_shape {i : Instr} {mn : Mnemonic} {o : Operand}
    (h : i.shape = .documented mn o) : mnemonicOf i = some mn := by
  simp [mnemonicOf, h]

/-- The effect of an instruction other than PHP and BRK keeps two states in the relation. -/
theorem effect_differsOnlyIn {f : Flag} (hf : f ∈ [Flag.i, .d]) {i : Instr}
    (hphp : mnemonicOf i ≠ some .php) (hbrk : mnemonicOf i ≠ some .brk) {s t : State}
    (h : DiffersOnlyIn f s t) : DiffersOnlyIn f (effect i.shape s) (effect i.shape t) := by
  cases hshape : i.shape with
  | unassigned b => exact h
  | documented mn o =>
    rw [mnemonicOf_of_shape hshape] at hphp hbrk
    exact operation_differsOnlyIn hf (fun e => hphp (e ▸ rfl)) (fun e => hbrk (e ▸ rfl)) o h

/-- A flag of P plays no part in the fetch. -/
theorem fetch_setFlag (s : State) (f : Flag) (on : Bool) : (s.setFlag f on).fetch = s.fetch :=
  State.fetch_congr rfl rfl

/-- Settles O51: both steps run the same instruction, from two states that differ in the flag only. -/
theorem storedFlagsHaveNoEffect : Obligations.StoredFlagsHaveNoEffect := by
  intro s t f on hf hphp hbrk hstep
  obtain rfl : t = effect s.fetch.shape (s.passInstr s.fetch) := eq_effect_of_exec hstep
  have hstart : DiffersOnlyIn f (s.passInstr s.fetch) ((s.setFlag f on).passInstr s.fetch) :=
    (differsOnlyIn_setFlag f on s).setPc _
  refine ⟨effect s.fetch.shape ((s.setFlag f on).passInstr s.fetch), ?_,
    effect_differsOnlyIn hf hphp hbrk hstart⟩
  rw [step_eq, fetch_setFlag, exec_eq_effect]

end Sys2Proof.Machine
end

section
/-!
PROOFS. The memory gates and the code bytes (20_memory.md R43, R44, R58; 70_reset_and_hazards.md
R226): what a read answers, what a write changes and keeps, and what a fetch sees of a store.
-/

namespace Sys2Proof.Machine

/-! ## The read gate -/

/-- The opcode 0x00 is BRK, whatever bytes follow it. -/
theorem decodeOp_zero (b1 b2 : Byte) : decodeOp 0x00#8 b1 b2 = .brk := rfl

/-- The opcode byte is the one PC names. -/
theorem State.codeByte_zero (s : State) : s.codeByte 0 = s.readByte s.pc := by
  simp [State.codeByte]

/-- A step whose opcode byte reads 0x00 runs BRK. -/
theorem step_of_readByte_eq_zero {s : State} (h : s.readByte s.pc = 0x00#8) :
    step s = exec .brk (s.setPc (s.pc + 1#16)) := by
  have hfetch : s.fetch = .brk := by rw [State.fetch, s.codeByte_zero, h, decodeOp_zero]
  rw [step_eq, hfetch]
  rfl

/-- At the console port the step runs BRK: the opcode byte there reads 0x00. -/
theorem step_at_consolePort {s : State} (hpc : s.pc = 0xF001#16) :
    step s = exec .brk (s.setPc 0xF002#16) := by
  have hport : s.readByte s.pc = 0x00#8 := hpc ▸ s.readByte_port
  have hnext : s.pc + 1#16 = 0xF002#16 := by rw [hpc]; decide
  rw [step_of_readByte_eq_zero hport, hnext]

/-- Settles O13: the read gate is the definition of a read, and the step at the port runs BRK. -/
theorem readGate : Obligations.ReadGate :=
  ⟨fun _ _ => rfl, fun _ => step_at_consolePort⟩

/-! ## The write gate -/

theorem writeByte_storesByte (s : State) (ea : Word) (v : Byte) :
    StoresByte ea v s (s.writeByte ea v) := by
  refine ⟨by simp, fun other hne => ?_, s.writeByte_console ea v⟩
  rw [State.writeByte_mem, Memory.read_write, if_neg hne]

/-- Settles O14, from the stored byte, the frame of the registers and flags, and PC. -/
theorem writeGate : Obligations.WriteGate := fun s ea v =>
  ⟨writeByte_storesByte s ea v, keepsAllBut_writeByte s ea v, s.writeByte_pc ea v⟩

/-! ## The fetch after a store -/

/-- Settles O15: PC is kept, so the code byte is the read gate's answer at one address before and
after the store. At the port that answer is 0x00 both times. -/
theorem fetchSeesStores : Obligations.FetchSeesStores := by
  intro s ea v k
  simp only [State.codeByte, State.writeByte_pc, State.readByte_writeByte]
  generalize s.pc + BitVec.ofNat 16 k = c
  by_cases hport : c = Config.consolePort
  · subst hport
    have hnever : ¬ (Config.consolePort = ea ∧ ea ≠ 0xF001#16) := fun ⟨heq, hne⟩ => hne heq.symm
    rw [if_pos rfl, if_neg hnever, State.readByte_port]
  · rw [if_neg hport]
    by_cases hc : c = ea
    · have hne : ea ≠ 0xF001#16 := hc ▸ hport
      rw [if_pos hc, if_pos ⟨hc, hne⟩]
    · rw [if_neg hc, if_neg fun ⟨heq, _⟩ => hc heq]

end Sys2Proof.Machine
end

section
/-!
PROOFS. The decoder and the Instruction Set Table (30_encoding.md R60 to R63, R76 to R78). One fact
about the grid carries it: the entry of an opcode byte gives an instruction whose encoding is that
byte and the bytes the entry read. The rest follows from the table: an instruction's encoding names
its opcode and its operand's bytes, and no opcode byte stands in the table twice.
-/

namespace Sys2Proof

/-! ## The table -/

/-- Every instruction has an encoding (R78). -/
theorem Instr.wellFormed_eq_true (i : Instr) : i.wellFormed = true := by
  cases i <;> rfl

/-- An unassigned byte's instruction is encoded as that byte, which is one of the 105 (R77). -/
theorem encode_unassigned {i : Instr} {b : Byte} (h : i.shape = .unassigned b) :
    b ∈ unassignedOpcodes ∧ encode i = [b] := by
  have hwf := i.wellFormed_eq_true
  rw [Instr.wellFormed, h] at hwf
  have hmem : unassignedOpcodes.contains b = true := hwf
  refine ⟨List.contains_iff_mem.mp hmem, ?_⟩
  rw [encode, h, Shape.encode, if_pos hmem]
  rfl

/-- A documented instruction's opcode is the table's for its mode, and its encoding begins with it
(R61, R76). -/
theorem encode_of_shape {i : Instr} {mn : Mnemonic} {o : Operand} (h : i.shape = .documented mn o) :
    ∃ op, mn.opcode o.mode = some op ∧ encode i = op :: o.bytes := by
  obtain ⟨op, hmem, henc⟩ := (Machine.encodedAs_forms mn).1 i o h
  exact ⟨op, Mnemonic.mem_forms.mp hmem, henc⟩

/-- No byte of the table is one of the unassigned bytes. -/
theorem Mnemonic.opcode_not_mem_unassigned {mn : Mnemonic} {md : Mode} {op : Byte}
    (h : mn.opcode md = some op) : op ∉ unassignedOpcodes := by
  have hrow : ∀ f ∈ mn.forms, f.2 ∉ unassignedOpcodes := by
    cases mn <;> decide
  exact hrow (md, op) (Mnemonic.mem_forms.mpr h)

@[simp] theorem Asm.operandOf_mode (md : Mode) (v : Nat) : (Asm.operandOf md v).mode = md := by
  cases md <;> rfl

/-- What the decoder reads from an entry's opcode followed by zeros. -/
theorem shape_decodeOp_zeros {mn : Mnemonic} {md : Mode} {op : Byte} (h : mn.opcode md = some op) :
    (decodeOp op 0 0).shape = .documented mn (Asm.operandOf md 0) := by
  have hdec := decodeOp_of_opcode ((Asm.operandOf_mode md 0).symm ▸ h)
  cases md <;> exact hdec

/-- No opcode byte stands in the table twice: the decoder would read both entries from it. -/
theorem Mnemonic.opcode_inj {mn mn' : Mnemonic} {md md' : Mode} {op : Byte}
    (h : mn.opcode md = some op) (h' : mn'.opcode md' = some op) : mn = mn' ∧ md = md' := by
  have hzeros := (shape_decodeOp_zeros h).symm.trans (shape_decodeOp_zeros h')
  obtain ⟨hmn, hoperand⟩ := Shape.documented.inj hzeros
  exact ⟨hmn, by simpa using congrArg Operand.mode hoperand⟩

/-! ## The grid -/

/-- An entry of the grid that stands at the opcode byte `b0`: its instruction is encoded as `b0` and
the bytes that the entry's format reads (R61, R63). -/
inductive EntryOf (b0 : Byte) : (Byte → Byte → Instr) → Prop
  | one {i : Instr} (h : encode i = [b0]) : EntryOf b0 (oneByte i)
  | two {f : Byte → Instr} (h : ∀ b1, encode (f b1) = [b0, b1]) : EntryOf b0 (twoBytes f)
  | three {f : Word → Instr} (h : ∀ w, encode (f w) = [b0, w.lowByte, w.highByte]) :
    EntryOf b0 (threeBytes f)

/-- Each of the 256 entries of the grid stands at its own opcode byte. -/
theorem entryOf_grid {row col : Nat} (hrow : row < 16) (hcol : col < 16) :
    EntryOf (BitVec.ofNat 8 (16 * row + col)) decodeGrid[row][col] := by
  interval_cases row <;> interval_cases col <;> constructor <;> intros <;> rfl

theorem entryOf_decodeOp (b0 : Byte) : EntryOf b0 (decodeOp b0) := by
  have h := entryOf_grid (row := b0.toNat / 16) (col := b0.toNat % 16) (by omega) (by omega)
  rwa [Nat.div_add_mod, BitVec.ofNat_toNat, BitVec.setWidth_eq] at h

theorem EntryOf.encode_eq {b0 : Byte} {e : Byte → Byte → Instr} (h : EntryOf b0 e) (b1 b2 : Byte) :
    ∃ k, encode (e b1 b2) = b0 :: [b1, b2].take k := by
  cases h with
  | one h => exact ⟨0, h⟩
  | two h => exact ⟨1, h b1⟩
  | three h => exact ⟨2, by simp [threeBytes, h]⟩

/-- What is read is encoded as the opcode byte and a beginning of the bytes after it. -/
theorem encode_decodeOp (b0 b1 b2 : Byte) :
    ∃ k, encode (decodeOp b0 b1 b2) = b0 :: [b1, b2].take k :=
  (entryOf_decodeOp b0).encode_eq b1 b2

/-! ## What the decoder reads -/

/-- A documented operation is read from its own opcode, and its operand is made of the bytes after
it (R62, R63). -/
theorem decodeOp_documented {b0 b1 b2 : Byte} {mn : Mnemonic} {o : Operand}
    (h : (decodeOp b0 b1 b2).shape = .documented mn o) :
    mn.opcode o.mode = some b0 ∧ o.bytes = [b1, b2].take (o.mode.length - 1) := by
  obtain ⟨op, hop, henc⟩ := encode_of_shape h
  obtain ⟨k, hk⟩ := encode_decodeOp b0 b1 b2
  obtain ⟨rfl, hbytes⟩ := List.cons.inj (henc.symm.trans hk)
  refine ⟨hop, ?_⟩
  have hlen : o.mode.length - 1 = o.bytes.length := by rw [← o.length_bytes, Nat.add_sub_cancel]
  rw [hlen, hbytes, List.length_take, ← List.take_eq_take_min]

/-- An unassigned byte is read as itself, and it is one of the 105 (R77). -/
theorem decodeOp_unassigned {b0 b1 b2 b : Byte}
    (h : (decodeOp b0 b1 b2).shape = .unassigned b) : b = b0 ∧ b0 ∈ unassignedOpcodes := by
  obtain ⟨hmem, henc⟩ := encode_unassigned h
  obtain ⟨k, hk⟩ := encode_decodeOp b0 b1 b2
  obtain ⟨rfl, -⟩ := List.cons.inj (henc.symm.trans hk)
  exact ⟨rfl, hmem⟩

/-- A byte of the table is read as its entry, whatever bytes follow. -/
theorem decodeOp_of_table {mn : Mnemonic} {md : Mode} {op : Byte} (h : mn.opcode md = some op)
    (b1 b2 : Byte) : ∃ o, (decodeOp op b1 b2).shape = .documented mn o ∧ o.mode = md := by
  cases hshape : (decodeOp op b1 b2).shape with
  | unassigned b =>
    exact absurd (decodeOp_unassigned hshape).2 (Mnemonic.opcode_not_mem_unassigned h)
  | documented mn' o =>
    obtain ⟨rfl, hmode⟩ := Mnemonic.opcode_inj (decodeOp_documented hshape).1 h
    exact ⟨o, rfl, hmode⟩

/-- The effect of an unassigned byte is NOP's (R77, R181). -/
theorem exec_nop_eq_of_unassigned {i : Instr} {b : Byte} (h : i.shape = .unassigned b)
    (s : Machine.State) : Machine.exec .nop s = Machine.exec i s := by
  rw [Machine.exec_eq_effect i s, h]
  rfl

/-- Settles O3: a byte of the table is read as its entry, 0xEA among them. -/
theorem tableAndDecoderAgree : Obligations.TableAndDecoderAgree :=
  ⟨fun _ _ _ h b1 b2 => decodeOp_of_table h b1 b2, fun _ _ => rfl,
    fun _ _ h s => exec_nop_eq_of_unassigned h s⟩

/-- Settles O4, by the two kinds of entry: an instruction is documented or an unassigned byte. -/
theorem decoderIsTotal : Obligations.DecoderIsTotal := by
  refine ⟨by decide, by decide, fun b0 b1 b2 => ?_⟩
  cases hshape : (decodeOp b0 b1 b2).shape with
  | unassigned b =>
    obtain ⟨rfl, hmem⟩ := decodeOp_unassigned hshape
    exact .inl ⟨hmem, rfl⟩
  | documented mn o =>
    obtain ⟨hop, hbytes⟩ := decodeOp_documented hshape
    exact .inr ⟨Mnemonic.opcode_not_mem_unassigned hop, mn, o, rfl, hop, hbytes⟩

/-! ## Lengths -/

theorem Mode.length_eq_one_or_two_or_three (md : Mode) :
    md.length = 1 ∨ md.length = 2 ∨ md.length = 3 := by
  cases md <;> decide

theorem Shape.length_eq_one_or_two_or_three (sh : Shape) :
    sh.length = 1 ∨ sh.length = 2 ∨ sh.length = 3 := by
  cases sh with
  | documented mn o => exact o.mode.length_eq_one_or_two_or_three
  | unassigned b => exact .inl rfl

/-- The length of what is read does not depend on the bytes after the opcode (R60). -/
theorem length_decodeOp (b0 b1 b2 c1 c2 : Byte) :
    (decodeOp b0 b1 b2).length = (decodeOp b0 c1 c2).length := by
  cases hshape : (decodeOp b0 b1 b2).shape with
  | documented mn o =>
    obtain ⟨o', hshape', hmode⟩ := decodeOp_of_table (decodeOp_documented hshape).1 c1 c2
    simp only [Instr.length, hshape, hshape', Shape.length, hmode]
  | unassigned b =>
    have hmem := (decodeOp_unassigned hshape).2
    cases hshape' : (decodeOp b0 c1 c2).shape with
    | documented mn o =>
      exact absurd hmem (Mnemonic.opcode_not_mem_unassigned (decodeOp_documented hshape').1)
    | unassigned b' => simp only [Instr.length, hshape, hshape', Shape.length]

/-- Settles O5: the length is that of the opcode followed by zeros. -/
theorem opcodeFixesLength : Obligations.OpcodeFixesLength := by
  intro b0
  refine ⟨(decodeOp b0 0 0).length, Shape.length_eq_one_or_two_or_three _, fun b1 b2 => ?_⟩
  rw [length_decodeOp b0 0 0 b1 b2]
  obtain ⟨k, hk⟩ := encode_decodeOp b0 b1 b2
  refine ⟨rfl, encode_length (Instr.wellFormed_eq_true _), by rw [hk]; rfl, fun b hb => ?_,
    fun mn o ho => ⟨?_, decodeOp_of_table (decodeOp_documented ho).1⟩⟩
  · rw [Instr.length, hb]; rfl
  · rw [Instr.length, ho]; rfl

/-- Settles O6: each word runs through the decoder. -/
theorem writtenWordsDecode : Obligations.WrittenWordsDecode :=
  ⟨rfl, rfl, rfl, rfl, rfl, rfl, rfl, rfl, rfl⟩

end Sys2Proof
end

section
/-!
PROOFS. The addressing modes (30_encoding.md R66 to R72, R75): each effective address as a number,
and the operand byte. A sum of two bytes widened to a word is the sum modulo 256; a word of two
bytes is the low one plus 256 times the high one.
-/

namespace Sys2Proof.Machine

/-! ## The effective addresses -/

theorem eaZp_toNat (z : Byte) : (eaZp z).toNat = z.toNat := by
  unfold eaZp
  bv_omega

/-- A zero-page index wraps within page 0 (R67). -/
theorem setWidth_add_toNat (z i : Byte) :
    ((z + i).setWidth 16).toNat = (z.toNat + i.toNat) % 256 := by
  bv_omega

/-- An absolute index wraps at 65536 (R69). -/
theorem add_setWidth_toNat (w : Word) (i : Byte) :
    (w + i.setWidth 16).toNat = (w.toNat + i.toNat) % 65536 := by
  bv_omega

/-- Settles O18: the three zero-page modes. -/
theorem zeroPageAddresses : Obligations.ZeroPageAddresses := fun z s =>
  ⟨⟨_, rfl, eaZp_toNat z⟩, ⟨_, rfl, setWidth_add_toNat z s.x⟩, ⟨_, rfl, setWidth_add_toNat z s.y⟩⟩

/-- Settles O19: the three absolute modes. -/
theorem absoluteAddresses : Obligations.AbsoluteAddresses := fun w s =>
  ⟨rfl, ⟨_, rfl, add_setWidth_toNat w s.x⟩, ⟨_, rfl, add_setWidth_toNat w s.y⟩⟩

/-- A zero-page pointer, at a byte `p` with the value `n` modulo 256: both its bytes lie in page 0,
the low one first (R71, R72). -/
theorem readZeroPage16_toNat (s : State) {p : Byte} {n : Nat} (hp : p.toNat = n % 256) :
    (s.readZeroPage16 p).toNat =
      (s.readByte (BitVec.ofNat 16 (n % 256))).toNat +
        256 * (s.readByte (BitVec.ofNat 16 ((n + 1) % 256))).toNat := by
  have hlow : p.setWidth 16 = BitVec.ofNat 16 (n % 256) := by bv_omega
  have hhigh : (p + 1).setWidth 16 = BitVec.ofNat 16 ((n + 1) % 256) := by bv_omega
  rw [State.readZeroPage16, Word.ofBytes_toNat, hlow, hhigh]
  omega

/-- Settles O20: `(zp,X)` is the pointer at the indexed byte, `(zp),Y` the indexed pointer at the
byte. -/
theorem pointerAddresses : Obligations.PointerAddresses := by
  refine fun z s => ⟨⟨_, rfl, ?_⟩, ⟨_, rfl, ?_⟩⟩
  · exact readZeroPage16_toNat s (BitVec.toNat_add z s.x)
  · have hz : z.toNat = z.toNat % 256 := (Nat.mod_eq_of_lt z.isLt).symm
    rw [eaIndy, add_setWidth_toNat, readZeroPage16_toNat s hz, ← hz]

/-! ## The operand byte -/

/-- A mode that names an address takes its operand byte from there, through the read gate. -/
theorem operandByte_of_operandAddress {o : Operand} {s : State} {ea : Word}
    (h : operandAddress o s = some ea) : operandByte o s = some (s.readByte ea) := by
  cases o with
  | imp | acc | imm | ind | rel => cases h
  | zp | zpx | zpy | abs | absx | absy | indx | indy => exact congrArg (Option.map s.readByte) h

/-- Settles O21: immediate and accumulator by definition, the other modes through their address. -/
theorem operandBytes : Obligations.OperandBytes :=
  fun _ => ⟨fun _ => rfl, rfl, fun _ _ h => operandByte_of_operandAddress h⟩

end Sys2Proof.Machine
end

section
/-!
PROOFS. The jumps (43_control_transfer.md R159, 30_encoding.md R70), and who writes memory
(20_memory.md R49, 30_encoding.md R75): an operation that is not listed as a writer stores nothing
and emits nothing, and neither does a shift or rotate of A.
-/

namespace Sys2Proof.Machine

/-! ## Jumps -/

/-- A state that changes nothing but registers and flags keeps memory and console. -/
theorem keepsMemory_of_eq {s t : State} (hmem : t.mem = s.mem) (hconsole : t.console = s.console) :
    KeepsMemory s t :=
  ⟨fun _ => by rw [hmem], hconsole⟩

/-- The word a pointer names: its high byte stands at the next address modulo 65536 (R12, R46). -/
theorem read16_toNat (s : State) (ptr : Word) :
    (s.read16 ptr).toNat = (s.readByte ptr).toNat +
      256 * (s.readByte (BitVec.ofNat 16 ((ptr.toNat + 1) % 65536))).toNat := by
  have hnext : ptr + 1 = BitVec.ofNat 16 ((ptr.toNat + 1) % 65536) := by bv_omega
  rw [State.read16, Word.ofBytes_toNat, hnext]
  omega

/-- Settles O35: JMP's row of the table, and PC set to the operand or to the word it points to. -/
theorem jumpResults : Obligations.JumpResults := by
  refine ⟨encodedAs_forms .jmp, fun s target ptr => ⟨⟨_, rfl, rfl, ?_, ?_⟩, ⟨_, rfl, ?_, ?_, ?_⟩⟩⟩
  · exact keepsAllBut_setPc s target
  · exact keepsMemory_of_eq rfl rfl
  · exact read16_toNat s ptr
  · exact keepsAllBut_setPc s _
  · exact keepsMemory_of_eq rfl rfl

/-! ## Who writes memory -/

theorem keepsMemory_branch (taken : Bool) (d : Byte) (s : State) :
    KeepsMemory s (branch taken d s) := by
  cases taken with
  | false | true => exact keepsMemory_of_eq rfl rfl

theorem keepsMemory_shiftA (f : Byte → Bool → Byte × Bool) (s : State) :
    KeepsMemory s (shiftA f s) := keepsMemory_of_eq rfl rfl

/-- The operation of a mnemonic that is not listed as a writer keeps memory and console. -/
theorem keepsMemory_operation {mn : Mnemonic} (hmn : mn ∉ memoryWriters) (o : Operand) (s : State) :
    KeepsMemory s (operation mn o s) := by
  cases mn with
  | sta | stx | sty | asl | lsr | rol | ror | inc | dec | pha | php | jsr | brk =>
    exact absurd (by decide) hmn
  | bcc | bcs | beq | bne | bmi | bpl | bvc | bvs => exact keepsMemory_branch _ _ s
  | lda | ldx | ldy | tax | tay | txa | tya | tsx | txs | adc | sbc | and | ora | eor | bit | cmp
  | cpx | cpy | inx | iny | dex | dey | jmp | rts | rti | pla | plp | nop | clc | sec | cli | sei
  | clv | cld | sed => exact keepsMemory_of_eq rfl rfl

/-- Only the shifts and rotates have an accumulator mode (R76). -/
theorem isShift_of_opcode_acc {mn : Mnemonic} (h : (mn.opcode .acc).isSome) :
    mn ∈ [Mnemonic.asl, .lsr, .rol, .ror] := by
  revert h
  cases mn <;> decide

/-- A shift or rotate of A keeps memory and console (R140). -/
theorem keepsMemory_operation_acc {mn : Mnemonic} (hmn : mn ∈ [Mnemonic.asl, .lsr, .rol, .ror])
    (s : State) : KeepsMemory s (operation mn .acc s) := by
  simp only [List.mem_cons, List.not_mem_nil, or_false] at hmn
  obtain rfl | rfl | rfl | rfl := hmn
  · exact keepsMemory_shiftA aslByte s
  · exact keepsMemory_shiftA lsrByte s
  · exact keepsMemory_shiftA rolByte s
  · exact keepsMemory_shiftA rorByte s

/-- Settles O49: an instruction whose mnemonic is listed has accumulator mode, and so is a shift or
rotate of A. -/
theorem memoryWritersOnly : Obligations.MemoryWritersOnly := by
  intro i s t hexec hacc
  obtain rfl := eq_effect_of_exec hexec
  cases hshape : i.shape with
  | unassigned b => exact keepsMemory_of_eq rfl rfl
  | documented mn o =>
    rw [effect_documented]
    by_cases hmn : mn ∈ memoryWriters
    · obtain rfl := hacc mn o hshape hmn
      obtain ⟨op, hop, -⟩ := encode_of_shape hshape
      exact keepsMemory_operation_acc (isShift_of_opcode_acc (Option.isSome_of_eq_some hop)) s
    · exact keepsMemory_operation hmn o s

end Sys2Proof.Machine
end

section
/-!
PROOFS. What the assembler emits (30_encoding.md R90, R91, R94): an instruction in a mode of the
table gives the entry's opcode and its operand's bytes, which the decoder reads back; a branch in
range gives the displacement that the engine adds to reach the target.
-/

namespace Sys2Proof.Asm

/-! ## Emission in a mode -/

/-- In a mode of the table the entry's opcode and the operand's bytes are emitted; the one
diagnostic is that of a branch out of range (R89 to R91). -/
theorem emitInstruction_of_opcode {mn : Mnemonic} {md : Mode} {op : Byte}
    (h : mn.opcode md = some op) (address v : Nat) :
    emitInstruction mn md address v =
      (if md = .rel ∧ !inBranchRange (displacement address (v % 65536)) then [.branchOutOfRange]
        else [], op :: (emittedOperand md address v).bytes) := by
  have hcode : (Shape.documented mn (emittedOperand md address v)).encode =
      some (op :: (emittedOperand md address v).bytes) := by
    rw [Shape.encode, emittedOperand_mode, h, Option.map_some]
  simp only [emitInstruction, hcode]
  split_ifs
  · rfl
  · rfl

/-- Outside relative mode the operand is the value's low byte or 16 bits (R90). -/
theorem emittedOperand_of_ne_rel {md : Mode} (h : md ≠ .rel) (address v : Nat) :
    emittedOperand md address v = operandOf md v := by
  cases md with
  | rel => exact absurd rfl h
  | imp | acc | imm | zp | zpx | zpy | abs | absx | absy | ind | indx | indy => rfl

/-- The bytes of a table entry decode, with nothing left over, to the operation and operand
meant. -/
theorem decode_of_opcode {mn : Mnemonic} {o : Operand} {op : Byte}
    (h : mn.opcode o.mode = some op) :
    ∃ i, decode (op :: o.bytes) = .ok (i, []) ∧ i.shape = .documented mn o := by
  have hshape := decodeOp_of_opcode h
  refine ⟨_, ?_, hshape⟩
  have hlen : (decodeOp op (o.bytes.getD 0 0) (o.bytes.getD 1 0)).length = o.bytes.length + 1 := by
    rw [Instr.length, hshape, Shape.length, o.length_bytes]
  simp only [decode, hlen, lt_irrefl, if_false, Nat.add_sub_cancel, List.drop_length]

/-- Settles O56: outside relative mode the emitted operand is the one the value stands for. -/
theorem tableEntriesAssemble : Obligations.TableEntriesAssemble := by
  intro mn md op address v hop hrel
  have hop' : mn.opcode (operandOf md v).mode = some op := by rwa [operandOf_mode]
  obtain ⟨i, hdecode, hshape⟩ := decode_of_opcode hop'
  refine ⟨(operandOf md v).bytes, i, ?_, ?_, hdecode, hshape⟩
  · rw [emitInstruction_of_opcode hop, emittedOperand_of_ne_rel hrel, if_neg fun h => hrel h.1]
  · rw [List.length_cons, Operand.length_bytes, operandOf_mode]

/-! ## Branches -/

/-- Each branch has its opcode in relative mode (R151 to R158). -/
theorem opcode_rel_of_mem_branchConditions {mn : Mnemonic} {op : Byte} {f : Machine.Flag} {v : Bool}
    (h : (mn, op, f, v) ∈ Machine.branchConditions) : mn.opcode .rel = some op := by
  have hall : ∀ b ∈ Machine.branchConditions, b.1.opcode .rel = some b.2.1 := by decide
  exact hall _ h

theorem inBranchRange_iff (d : Int) : inBranchRange d = true ↔ -128 ≤ d ∧ d ≤ 127 := by
  simp [inBranchRange]

/-- A displacement in range, sign extended, is itself modulo 65536 (R74, R91). -/
theorem signExtend_ofInt {d : Int} (hlow : -128 ≤ d) (hhigh : d ≤ 127) :
    Machine.signExtend (BitVec.ofInt 8 d) = BitVec.ofInt 16 d := by
  have hsigned : (BitVec.ofInt 8 d).toInt = d := by
    rw [BitVec.toInt_ofInt]
    exact Int.bmod_eq_of_le (by omega) (by omega)
  rw [Machine.signExtend, BitVec.signExtend, hsigned]

/-- The address after a branch plus the displacement to the target is the target. -/
theorem ofNat_add_ofInt_displacement (address target : Nat) :
    BitVec.ofNat 16 (address + 2) + BitVec.ofInt 16 (displacement address target) =
      BitVec.ofNat 16 target := by
  rw [← BitVec.ofInt_natCast, ← BitVec.ofInt_natCast, ← BitVec.ofInt_add]
  congr 1
  rw [displacement]
  omega

/-- Settles O57: the emitted displacement, in range and out of range. -/
theorem assembledBranchReachesTarget : Obligations.AssembledBranchReachesTarget := by
  intro mn op f v hmem address target htarget distance
  have hdistance : displacement address (target % 65536) = distance := by
    rw [Nat.mod_eq_of_lt htarget]; rfl
  rw [emitInstruction_of_opcode (opcode_rel_of_mem_branchConditions hmem)]
  simp only [true_and, emittedOperand, hdistance, Operand.bytes]
  constructor
  · intro hrange
    refine ⟨BitVec.ofInt 8 distance, ?_, ?_, ?_⟩
    · simp [(inBranchRange_iff distance).mpr hrange]
    · rw [BitVec.toNat_ofInt]
      omega
    · rw [signExtend_ofInt hrange.1 hrange.2]
      exact ofNat_add_ofInt_displacement address target
  · intro hrange
    simp [mt (inBranchRange_iff distance).mp hrange]

/-! ## Diagnostics -/

/-- Settles O55: the machine code is taken from the image only when there is no diagnostic. -/
theorem diagnosticsSuppressCode : Obligations.DiagnosticsSuppressCode := by
  intro source herrors
  have hsome : ¬ (assemble source).errors.isEmpty = true := fun h =>
    herrors (List.isEmpty_iff.mp h)
  exact if_neg hsome

end Sys2Proof.Asm
end

section
/-!
PROOFS. The two passes of the assembler (30_encoding.md R81, R83, R85, R96). Each pass is a walk over
the lines with a cursor: pass 1 binds labels as it goes, pass 2 has the completed table. The address
of a line and of the line after it are one step of the walk; the passes take the same steps unless
an `.ORG` names a label that the completed table resolves otherwise; and a label resolves to the
address of the last line that binds it, which is the only one where no line is diagnosed.
-/

namespace Sys2Proof.Asm

/-! ## One step of each walk -/

/-- Pass 1 after its first line: from where that line leaves the cursor, with its label bound. -/
abbrev pass1Tail (labels : Labels) (cursor : Nat) (line : Line) (lines : List Line) :
    List Placed × Labels :=
  let bound := bindLabel labels cursor line
  pass1 bound ((placeLine labels bound cursor line).advance bound cursor) lines

theorem pass1_cons (labels : Labels) (cursor : Nat) (line : Line) (lines : List Line) :
    pass1 labels cursor (line :: lines) =
      (placeLine labels (bindLabel labels cursor line) cursor line ::
        (pass1Tail labels cursor line lines).1, (pass1Tail labels cursor line lines).2) := rfl

/-- Pass 1 places its first line at the cursor. -/
theorem pass1_head_address {labels : Labels} {cursor : Nat} {lines : List Line} {l : Placed}
    (h : (pass1 labels cursor lines).1[0]? = some l) : l.address = cursor := by
  cases lines with
  | nil => cases h
  | cons line lines => cases h; rfl

/-- In pass 1 the next line stands where a line leaves the cursor, against the labels bound so
far. -/
theorem pass1_next_address {lines : List Line} {labels : Labels} {cursor k : Nat} {l l' : Placed}
    (h : (pass1 labels cursor lines).1[k]? = some l)
    (h' : (pass1 labels cursor lines).1[k + 1]? = some l') :
    ∃ bound, l'.address = l.advance bound l.address := by
  induction lines generalizing labels cursor k with
  | nil => cases h
  | cons line lines ih =>
    rw [pass1_cons, List.getElem?_cons_succ] at h'
    cases k with
    | zero => cases h; exact ⟨_, pass1_head_address h'⟩
    | succ k => exact ih h h'

/-- Pass 2 emits each placed line at a cursor of its own. -/
theorem pass2_getElem? {ls : List Placed} {labels : Labels} {cursor k : Nat} {l : Placed}
    (h : ls[k]? = some l) :
    ∃ c, (pass2 labels cursor ls)[k]? = some (emission labels c l) := by
  induction ls generalizing cursor k with
  | nil => cases h
  | cons head ls ih =>
    cases k with
    | zero => cases h; exact ⟨cursor, rfl⟩
    | succ k => exact ih h

/-- In pass 2 the next line stands where a line leaves the cursor, against the completed table. -/
theorem pass2_next {ls : List Placed} {labels : Labels} {cursor k : Nat} {l l' : Placed}
    (h : ls[k]? = some l) (h' : ls[k + 1]? = some l') :
    ∃ c, (pass2 labels cursor ls)[k]? = some (emission labels c l) ∧
      (pass2 labels cursor ls)[k + 1]? = some (emission labels (l.advance labels c) l') := by
  induction ls generalizing cursor k with
  | nil => cases h
  | cons head ls ih =>
    cases k with
    | zero =>
      cases h
      cases ls with
      | nil => cases h'
      | cons next ls => cases h'; exact ⟨cursor, rfl, rfl⟩
    | succ k => exact ih h h'

/-- Settles O59: the step of each pass from a line to the next is that line's advance. -/
theorem passesWalkTheLines : Obligations.PassesWalkTheLines := by
  intro lines k l l' placed h h'
  obtain ⟨bound, hnext⟩ := pass1_next_address h h'
  obtain ⟨c, he, he'⟩ := pass2_next (labels := placed.2) (cursor := Config.defaultOrigin) h h'
  refine ⟨fun hs => ?_, fun n hs => ?_, _, _, he, he', fun hs => ?_, fun t hs => ?_⟩
  · rw [hnext, advance_of_not_org bound _ hs]
  · rw [hnext, advance_of_org bound _ hs]; rfl
  · exact advance_of_not_org placed.2 c hs
  · exact advance_of_org placed.2 c hs

/-! ## What a label resolves to -/

/-- A label resolves, after pass 1, to the address of the last line that binds it (R83). -/
theorem resolve_pass1_of_last {lines : List Line} {labels : Labels} {cursor k : Nat} {l : Placed}
    {ident : List Char} (h : (pass1 labels cursor lines).1[k]? = some l)
    (hlabel : l.line.label = some ident)
    (hlast : ∀ later ∈ lines.drop (k + 1), later.label ≠ some ident) :
    (Term.name ident).resolve (pass1 labels cursor lines).2 = .value (l.address % 65536) := by
  induction lines generalizing labels cursor k with
  | nil => cases h
  | cons line lines ih =>
    rw [pass1_cons]
    cases k with
    | zero =>
      cases h
      exact (resolve_pass1_of_ne lines _ _ hlast).trans (resolve_bindLabel_self labels cursor hlabel)
    | succ k => exact ih h hlast

/-- The label table has a binding for the name. -/
def Binds (labels : Labels) (ident : List Char) : Prop := labels.any (fun b => b.1 == ident) = true

theorem binds_bindLabel_self {line : Line} {ident : List Char} (labels : Labels) (cursor : Nat)
    (h : line.label = some ident) : Binds (bindLabel labels cursor line) ident := by
  simp [Binds, bindLabel, h]

/-- Binding a line's label keeps the bindings there are. -/
theorem Binds.bindLabel {labels : Labels} {ident : List Char} (h : Binds labels ident)
    (cursor : Nat) (line : Line) : Binds (bindLabel labels cursor line) ident := by
  unfold Asm.bindLabel
  cases line.label with
  | none => exact h
  | some other => exact Bool.or_eq_true_iff.mpr (.inr h)

/-- A line whose label is bound before the pass is marked as a duplicate (R83). -/
theorem duplicate_of_binds {lines : List Line} {labels : Labels} {cursor : Nat} {l : Placed}
    {ident : List Char} (hbinds : Binds labels ident) (hmem : l ∈ (pass1 labels cursor lines).1)
    (hlabel : l.line.label = some ident) : l.duplicate = true := by
  induction lines generalizing labels cursor with
  | nil => cases hmem
  | cons line lines ih =>
    rw [pass1_cons] at hmem
    obtain rfl | hmem := List.mem_cons.mp hmem
    · have hline : line.label = some ident := hlabel
      simp only [placeLine, hline]
      exact hbinds
    · exact ih (hbinds.bindLabel cursor line) hmem

/-- A line that binds the label of an earlier line is marked as a duplicate (R83). -/
theorem duplicate_of_earlier {lines : List Line} {labels : Labels} {cursor k : Nat}
    {l later : Placed} {ident : List Char} (h : (pass1 labels cursor lines).1[k]? = some l)
    (hlabel : l.line.label = some ident)
    (hlater : later ∈ (pass1 labels cursor lines).1.drop (k + 1))
    (hlabel' : later.line.label = some ident) : later.duplicate = true := by
  induction lines generalizing labels cursor k with
  | nil => cases h
  | cons line lines ih =>
    rw [pass1_cons, List.drop_succ_cons] at hlater
    cases k with
    | zero =>
      cases h
      exact duplicate_of_binds (binds_bindLabel_self labels cursor hlabel) hlater hlabel'
    | succ k => exact ih h hlater

/-- Where pass 1 marks no duplicate, no later line binds the label of an earlier one. -/
theorem label_ne_of_no_duplicate {lines : List Line} {labels : Labels} {cursor k : Nat} {l : Placed}
    {ident : List Char} (h : (pass1 labels cursor lines).1[k]? = some l)
    (hlabel : l.line.label = some ident)
    (hfree : ∀ p ∈ (pass1 labels cursor lines).1, p.duplicate = false) :
    ∀ later ∈ lines.drop (k + 1), later.label ≠ some ident := by
  intro later hlater hlabel'
  rw [← pass1_lines lines labels cursor, ← List.map_drop] at hlater
  obtain ⟨p, hp, rfl⟩ := List.mem_map.mp hlater
  have hdup := duplicate_of_earlier h hlabel hp hlabel'
  rw [hfree p (List.mem_of_mem_drop hp)] at hdup
  cases hdup

/-! ## The emissions -/

/-- Pass 2 emits a line at its cursor, in the bytes pass 1 counted or, with a diagnostic, in none. -/
theorem emission_spec (labels : Labels) (cursor : Nat) (l : Placed) :
    (emission labels cursor l).address = cursor ∧
    (emission labels cursor l).line = l.line.number ∧
    ((emission labels cursor l).bytes = [] ∨ (emission labels cursor l).bytes.length = l.size) ∧
    ((emission labels cursor l).problems = [] → (emission labels cursor l).bytes.length = l.size) := by
  refine ⟨rfl, rfl, (emitLine_length labels cursor l).imp_left And.right, fun hproblems => ?_⟩
  have hnone : (emitLine labels cursor l).1 = [] := (List.append_eq_nil_iff.mp hproblems).2
  exact (emitLine_length labels cursor l).resolve_left fun h => h.1 hnone

/-- A line without problems binds no label a second time. -/
theorem duplicate_eq_false {labels : Labels} {cursor : Nat} {l : Placed}
    (h : (emission labels cursor l).problems = []) : l.duplicate = false := by
  cases hdup : l.duplicate with
  | false => rfl
  | true => simp [emission, hdup] at h

/-- A source without diagnostics has no problem on a line and no line that the passes place apart. -/
theorem emission_clean_of_errors_eq_nil {source : List Char} (h : (assemble source).errors = [])
    {e : Emission} (he : e ∈ emissions source) : e.problems = [] ∧ e.misplaced = false := by
  have hdiag : e.diagnostics (firstAddress (emissions source)) = [] :=
    List.flatMap_eq_nil_iff.mp h e he
  obtain ⟨hproblems, hplaced, -⟩ := (diagnostics_eq_nil _ e).mp hdiag
  exact ⟨hproblems, hplaced⟩

/-- The lines of a source as pass 1 places them, and the completed label table. -/
abbrev placedSource (source : List Char) : List Placed × Labels :=
  pass1 [] Config.defaultOrigin (parseSource source)

/-- In a source without diagnostics each line is emitted without a problem, and where it binds a
label the passes place it at one address (R94, R96). -/
theorem emission_of_errors_eq_nil {source : List Char} (h : (assemble source).errors = [])
    {k : Nat} {l : Placed} (hl : (placedSource source).1[k]? = some l) :
    ∃ c, (emissions source)[k]? = some (emission (placedSource source).2 c l) ∧
      l.duplicate = false ∧ (l.line.label = none ∨ l.address = c) := by
  obtain ⟨c, hc⟩ := pass2_getElem? (labels := (placedSource source).2)
    (cursor := Config.defaultOrigin) hl
  obtain ⟨hproblems, hplaced⟩ := emission_clean_of_errors_eq_nil h (List.mem_of_getElem? hc)
  exact ⟨c, hc, duplicate_eq_false hproblems, (emission_misplaced_eq_false _ c l).mp hplaced⟩

/-- A source without diagnostics binds no label twice (R83). -/
theorem no_duplicate_of_errors_eq_nil {source : List Char} (h : (assemble source).errors = []) :
    ∀ p ∈ (placedSource source).1, p.duplicate = false := by
  intro p hp
  obtain ⟨k, hk⟩ := List.mem_iff_getElem?.mp hp
  obtain ⟨c, -, hdup, -⟩ := emission_of_errors_eq_nil h hk
  exact hdup

/-- In a source without diagnostics a line that binds a label stands where pass 1 placed it, and the
label resolves to that address (R83, R96). -/
theorem label_address_of_errors_eq_nil {source : List Char} (h : (assemble source).errors = [])
    {k : Nat} {l : Placed} {e : Emission} {ident : List Char}
    (hl : (placedSource source).1[k]? = some l) (he : (emissions source)[k]? = some e)
    (hlabel : l.line.label = some ident) :
    e.address = l.address ∧
      (Term.name ident).resolve (placedSource source).2 = .value (e.address % 65536) := by
  obtain ⟨c, hc, -, hplaced⟩ := emission_of_errors_eq_nil h hl
  have haddress : e.address = l.address := by
    obtain rfl := Option.some.inj (he.symm.trans hc)
    exact (hplaced.resolve_left (by simp [hlabel])).symm
  have honly := label_ne_of_no_duplicate hl hlabel (no_duplicate_of_errors_eq_nil h)
  exact ⟨haddress, haddress ▸ resolve_pass1_of_last hl hlabel honly⟩

/-! ## The addresses agree -/

/-- A line leaves the cursor at one place whether later lines' labels are bound or not, if its `.ORG`
names none of them (R99, item 1). -/
theorem advance_pass1_eq {l : Placed} (labels : Labels) (cursor : Nat) (lines : List Line) (c : Nat)
    (h : ∀ later ∈ lines, l.line.originLabel = none ∨ later.label ≠ l.line.originLabel) :
    l.advance (pass1 labels cursor lines).2 c = l.advance labels c := by
  by_cases hs : ∀ t, l.line.statement ≠ .org t
  · rw [advance_of_not_org _ c hs, advance_of_not_org _ c hs]
  · push Not at hs
    obtain ⟨t, ht⟩ := hs
    rw [advance_of_org _ c ht, advance_of_org _ c ht]
    cases t with
    | number n => rfl
    | malformed => rfl
    | name ident =>
      have horigin : l.line.originLabel = some ident := by rw [Line.originLabel, ht]
      have hlater : ∀ later ∈ lines, later.label ≠ some ident := fun later hmem =>
        horigin ▸ (h later hmem).resolve_left (by simp [horigin])
      rw [resolve_pass1_of_ne lines labels cursor hlater]

/-- Where no `.ORG` names a label bound on a later line, pass 2 places each line where pass 1 did
(R96, R99). -/
theorem pass2_addresses (lines : List Line) (labels : Labels) (cursor : Nat)
    (h : NoForwardOrigin lines) :
    (pass2 (pass1 labels cursor lines).2 cursor (pass1 labels cursor lines).1).map
      Emission.address = (pass1 labels cursor lines).1.map Placed.address := by
  induction lines generalizing labels cursor with
  | nil => rfl
  | cons line lines ih =>
    obtain ⟨hhead, htail⟩ := List.pairwise_cons.mp h
    let bound := bindLabel labels cursor line
    have hstep := advance_pass1_eq (l := placeLine labels bound cursor line) bound
      ((placeLine labels bound cursor line).advance bound cursor) lines cursor hhead
    rw [pass1_cons]
    simp only [pass2, List.map_cons]
    rw [hstep, ih _ _ htail]
    rfl

/-- Settles O58, from the emission of a line, the labels of a clean source, and the two walks. -/
theorem passesAgreeOnAddresses : Obligations.PassesAgreeOnAddresses :=
  ⟨emission_spec, fun _ h _ _ _ _ hl he hlabel => label_address_of_errors_eq_nil h hl he hlabel,
    fun lines => ⟨pass2_addresses lines [] Config.defaultOrigin,
      fun _ _ _ h hlabel hlast => resolve_pass1_of_last h hlabel hlast⟩⟩

end Sys2Proof.Asm
end

section
/-!
PROOFS. Loads, stores and register transfers (40_load_store_transfer.md R100 to R111). A load and a
transfer are one operation, a register write and SetZN of the byte written; a store is the write
gate. What is left is that the operands in a mnemonic's row of the table name a byte, or an address.
-/

namespace Sys2Proof.Machine

/-! ## Operands that name a byte or an address -/

/-- The modes without an operand byte: implied, and the two of the jumps and branches (R75). -/
def bytelessModes : List Mode := [.imp, .ind, .rel]

/-- The modes that name no data byte in memory (R65, R70, R73, R74). -/
def addresslessModes : List Mode := [.imp, .acc, .imm, .ind, .rel]

theorem operandByte_eq_operandValue {o : Operand} (s : State) (h : o.mode ∉ bytelessModes) :
    operandByte o s = some (operandValue o s) := by
  cases o with
  | imp | ind | rel => simp [Operand.mode, bytelessModes] at h
  | acc | imm | zp | zpx | zpy | abs | absx | absy | indx | indy => rfl

theorem operandAddress_eq_operandPlace {o : Operand} (s : State) (h : o.mode ∉ addresslessModes) :
    operandAddress o s = some (operandPlace o s) := by
  cases o with
  | imp | acc | imm | ind | rel => simp [Operand.mode, addresslessModes] at h
  | zp | zpx | zpy | abs | absx | absy | indx | indy => rfl

/-- An instruction has one of the modes in its mnemonic's row of the table (R76). -/
theorem mode_not_mem_of_forms {i : Instr} {mn : Mnemonic} {o : Operand} {excluded : List Mode}
    (hforms : ∀ f ∈ mn.forms, f.1 ∉ excluded) (hshape : i.shape = .documented mn o) :
    o.mode ∉ excluded := by
  obtain ⟨op, hop, -⟩ := encode_of_shape hshape
  exact hforms _ (Mnemonic.mem_forms.mpr hop)

/-- An instruction completes in the state its mnemonic's operation makes. -/
theorem completes_of_operation {i : Instr} {mn : Mnemonic} {o : Operand} {s : State}
    {post : State → Prop} (hshape : i.shape = .documented mn o) (h : post (operation mn o s)) :
    Completes i s post := by
  refine ⟨_, exec_eq_effect i s, ?_⟩
  rwa [hshape, effect_documented]

/-! ## Taking a byte into a register -/

/-- SetZN writes the Zero and Negative of its byte (00_scope.md R14). -/
theorem zeroNegativeOf_setZN (s : State) (v : Byte) : ZeroNegativeOf v (s.setZN v) := by
  constructor
  · simp [← BitVec.toNat_inj]
  · simp [BitVec.msb_eq_decide]

theorem reg_setZN (s : State) (v : Byte) (r : Reg) : (s.setZN v).reg r = s.reg r := by
  cases r with
  | a | x | y | sp => rfl

/-- A write of one register, then SetZN of the byte written. -/
theorem loadsRegister_setZN {r : Reg} {v : Byte} {s t : State} (hreg : t.reg r = v)
    (hkeeps : KeepsAllBut [r] [] s t) (hmem : KeepsMemory s t) (hpc : t.pc = s.pc) :
    LoadsRegister r v s (t.setZN v) :=
  ⟨(reg_setZN t v r).trans hreg, zeroNegativeOf_setZN t v, hkeeps.trans (keepsAllBut_setZN t v),
    hmem, hpc⟩

theorem loadsRegister_setA (s : State) (v : Byte) : LoadsRegister .a v s ((s.setA v).setZN v) :=
  loadsRegister_setZN rfl (keepsAllBut_setA s v) (keepsMemory_of_eq rfl rfl) rfl

theorem loadsRegister_setX (s : State) (v : Byte) : LoadsRegister .x v s ((s.setX v).setZN v) :=
  loadsRegister_setZN rfl (keepsAllBut_setX s v) (keepsMemory_of_eq rfl rfl) rfl

theorem loadsRegister_setY (s : State) (v : Byte) : LoadsRegister .y v s ((s.setY v).setZN v) :=
  loadsRegister_setZN rfl (keepsAllBut_setY s v) (keepsMemory_of_eq rfl rfl) rfl

/-! ## Loads -/

/-- A mnemonic whose every mode has an operand byte and whose operation takes that byte into a
register is a load. -/
theorem load_completes {mn : Mnemonic} {r : Reg} (hforms : ∀ f ∈ mn.forms, f.1 ∉ bytelessModes)
    (hop : ∀ o s, LoadsRegister r (operandValue o s) s (operation mn o s))
    {i : Instr} {o : Operand} (hshape : i.shape = .documented mn o) (s : State) :
    ∃ m, operandByte o s = some m ∧ Completes i s (LoadsRegister r m s) :=
  ⟨operandValue o s, operandByte_eq_operandValue s (mode_not_mem_of_forms hforms hshape),
    completes_of_operation hshape (hop o s)⟩

/-- Settles O22: three rows of the table, and three register writes of the operand byte. -/
theorem loadResults : Obligations.LoadResults := by
  refine ⟨encodedAs_forms .lda, encodedAs_forms .ldx, encodedAs_forms .ldy, ?_⟩
  intro mn r hload i o s hshape
  simp only [List.mem_cons, List.not_mem_nil, or_false, Prod.mk.injEq] at hload
  obtain ⟨rfl, rfl⟩ | ⟨rfl, rfl⟩ | ⟨rfl, rfl⟩ := hload
  · exact load_completes (by decide) (fun _ t => loadsRegister_setA t _) hshape s
  · exact load_completes (by decide) (fun _ t => loadsRegister_setX t _) hshape s
  · exact load_completes (by decide) (fun _ t => loadsRegister_setY t _) hshape s

/-! ## Stores -/

/-- The write gate stores its byte and keeps every register, every flag and PC (R44). -/
theorem storesOnly_writeByte (s : State) (ea : Word) (v : Byte) :
    StoresOnly ea v s (s.writeByte ea v) := writeGate s ea v

/-- A mnemonic whose every mode names an address and whose operation writes a register there is a
store. -/
theorem store_completes {mn : Mnemonic} {r : Reg} (hforms : ∀ f ∈ mn.forms, f.1 ∉ addresslessModes)
    (hop : ∀ o s, operation mn o s = s.writeByte (operandPlace o s) (s.reg r))
    {i : Instr} {o : Operand} (hshape : i.shape = .documented mn o) (s : State) :
    ∃ ea, operandAddress o s = some ea ∧ Completes i s (StoresOnly ea (s.reg r) s) := by
  refine ⟨operandPlace o s, operandAddress_eq_operandPlace s (mode_not_mem_of_forms hforms hshape),
    completes_of_operation hshape ?_⟩
  rw [hop]
  exact storesOnly_writeByte s _ _

/-- Settles O23: three rows of the table, and the write gate with one of three registers. -/
theorem storeResults : Obligations.StoreResults := by
  refine ⟨encodedAs_forms .sta, encodedAs_forms .stx, encodedAs_forms .sty, ?_⟩
  intro mn r hstore i o s hshape
  simp only [List.mem_cons, List.not_mem_nil, or_false, Prod.mk.injEq] at hstore
  obtain ⟨rfl, rfl⟩ | ⟨rfl, rfl⟩ | ⟨rfl, rfl⟩ := hstore
  · exact store_completes (by decide) (fun _ _ => rfl) hshape s
  · exact store_completes (by decide) (fun _ _ => rfl) hshape s
  · exact store_completes (by decide) (fun _ _ => rfl) hshape s

/-! ## Register transfers -/

/-- Settles O24: the first five load a register from another, and TXS writes SP alone. -/
theorem transferResults : Obligations.TransferResults := by
  refine ⟨encodedAs_forms .tax, encodedAs_forms .tay, encodedAs_forms .txa, encodedAs_forms .tya,
    encodedAs_forms .tsx, encodedAs_forms .txs, fun s => ?_⟩
  have htxs : Completes .txs s fun t =>
      t.sp = s.x ∧ KeepsAllBut [.sp] [] s t ∧ KeepsMemory s t ∧ t.pc = s.pc :=
    ⟨_, rfl, rfl, keepsAllBut_setSp s s.x, keepsMemory_of_eq rfl rfl, rfl⟩
  exact ⟨⟨_, rfl, loadsRegister_setX s s.a⟩, ⟨_, rfl, loadsRegister_setY s s.a⟩,
    ⟨_, rfl, loadsRegister_setA s s.x⟩, ⟨_, rfl, loadsRegister_setA s s.y⟩,
    ⟨_, rfl, loadsRegister_setX s s.sp⟩, htxs⟩

end Sys2Proof.Machine
end

section
/-!
PROOFS. The indexed stores in the assembler (40_load_store_transfer.md R104, R105; 30_encoding.md
R88 to R90, R96): the mode pass 1 chooses for a line from what its address resolves to then, and
what pass 2 emits in that mode.
-/

namespace Sys2Proof.Asm

/-! ## The mode of pass 1 -/

theorem formAddress_of_value {labels : Labels} {form : Form} {t : Term} {v : Nat}
    (hterm : form.term = some t) (h : t.resolve labels = .value v) :
    formAddress labels form = some (v % 65536) := by
  simp [formAddress, hterm, h, Resolution.orZero]

theorem formAddress_of_unbound {labels : Labels} {form : Form} {t : Term}
    (hterm : form.term = some t) (h : t.resolve labels = .unbound) :
    formAddress labels form = none := by
  simp [formAddress, hterm, h]

/-- An address above 0xFF is absolute, whether the mnemonic has that mode or not (R88). -/
theorem sizeByAddress_of_wide (mn : Mnemonic) (zeroPage absolute : Mode) {address : Nat}
    (h : 0xFF < address) : sizeByAddress mn zeroPage absolute (some address) = absolute := by
  simp [sizeByAddress, Nat.not_le.mpr h]

/-- An unknown address is zero-page where the mnemonic has only that mode (R96). -/
theorem sizeByAddress_of_unknown (mn : Mnemonic) (zeroPage absolute : Mode)
    (hzero : hasMode mn zeroPage = true) (habs : hasMode mn absolute = false) :
    sizeByAddress mn zeroPage absolute none = zeroPage := by
  simp [sizeByAddress, hzero, habs]

section
variable {before bound : Labels} {address : Nat} {line : Line} {mn : Mnemonic} {form : Form}

theorem placeLine_mode (h : line.statement = .instruction mn form) :
    (placeLine before bound address line).mode = inferMode mn form (formAddress bound form) := by
  simp only [placeLine, h]

theorem placeLine_size (h : line.statement = .instruction mn form) :
    (placeLine before bound address line).size =
      (inferMode mn form (formAddress bound form)).length := by
  have hline : (placeLine before bound address line).line.statement = .instruction mn form := h
  simp only [Placed.size, hline, placeLine_mode h]

end

/-- STX has zero-page-Y and no absolute-Y (R76). -/
theorem inferMode_stx_unknown (t : Term) : inferMode .stx (.indexedY t) none = .zpy :=
  sizeByAddress_of_unknown .stx .zpy .absy (by decide) (by decide)

/-- STY has zero-page-X and no absolute-X (R76). -/
theorem inferMode_sty_unknown (t : Term) : inferMode .sty (.indexedX t) none = .zpx :=
  sizeByAddress_of_unknown .sty .zpx .absx (by decide) (by decide)

theorem inferMode_sty_of_wide (t : Term) {address : Nat} (h : 0xFF < address) :
    inferMode .sty (.indexedX t) (some address) = .absx :=
  sizeByAddress_of_wide .sty .zpx .absx h

/-! ## The emission of pass 2 -/

/-- An instruction line whose value resolves emits as its mode does, unless R104 rejects it. -/
theorem emitLine_instruction {labels : Labels} {l : Placed} {mn : Mnemonic} {form : Form} {t : Term}
    {v : Nat} (hs : l.line.statement = .instruction mn form) (hterm : form.term = some t)
    (h : t.resolve labels = .value v) (cursor : Nat) :
    emitLine labels cursor l =
      if isWideStx labels mn form then ([.invalidAddressingMode], [])
      else emitInstruction mn l.mode cursor v := by
  simp [emitLine, hs, hterm, h, Resolution.problems, Resolution.orZero]

/-- A mode that the mnemonic lacks is rejected (R89). -/
theorem emitInstruction_of_no_opcode {mn : Mnemonic} {md : Mode} (h : mn.opcode md = none)
    (address v : Nat) : emitInstruction mn md address v = ([.invalidAddressingMode], []) := by
  simp [emitInstruction, Shape.encode, h]

theorem isWideStx_indexedY {labels : Labels} {t : Term} {v : Nat}
    (h : t.resolve labels = .value v) :
    isWideStx labels .stx (.indexedY t) = decide (0xFF < v % 65536) := by
  simp only [isWideStx, formAddress_of_value (form := .indexedY t) rfl h, Option.any_some]

theorem isWideStx_sty (labels : Labels) (form : Form) : isWideStx labels .sty form = false := rfl

theorem emitInstruction_stx_zpy (address v : Nat) :
    emitInstruction .stx .zpy address v = ([], [0x96#8, BitVec.ofNat 8 v]) :=
  emitInstruction_of_opcode (by decide) address v

theorem emitInstruction_sty_zpx (address v : Nat) :
    emitInstruction .sty .zpx address v = ([], [0x94#8, BitVec.ofNat 8 v]) :=
  emitInstruction_of_opcode (by decide) address v

/-! ## The indexed stores -/

section
variable {labels : Labels} {t : Term} {v : Nat}

/-- `STX addr,Y`: rejected above 0xFF, else emitted in the mode of pass 1 (R104, R90). -/
theorem emitLine_stx {l : Placed} (hs : l.line.statement = .instruction .stx (.indexedY t))
    (h : t.resolve labels = .value v) (cursor : Nat) :
    emitLine labels cursor l =
      if 0xFF < v % 65536 then ([.invalidAddressingMode], [])
      else emitInstruction .stx l.mode cursor v := by
  simp only [emitLine_instruction hs rfl h, isWideStx_indexedY h, decide_eq_true_eq]

/-- `STY addr,X`: emitted in the mode of pass 1, or rejected where STY lacks it (R89, R90). -/
theorem emitLine_sty {l : Placed} (hs : l.line.statement = .instruction .sty (.indexedX t))
    (h : t.resolve labels = .value v) (cursor : Nat) :
    emitLine labels cursor l = emitInstruction .sty l.mode cursor v := by
  rw [emitLine_instruction hs rfl h, isWideStx_sty]
  rfl

end

/-- Settles O60: for STX by R104's test in pass 2, for STY by the mode of pass 1. -/
theorem indexedStoresRejectWideAddresses : Obligations.IndexedStoresRejectWideAddresses := by
  intro labels before bound cursor address line t v hv l
  refine ⟨fun hstx => ⟨?_, fun hunbound => ?_⟩, fun hsty => ⟨?_, fun hunbound => ?_⟩⟩
  · rintro hwide p rfl
    rw [emitLine_stx hstx hv, if_pos hwide]
  · have hmode : inferMode .stx (.indexedY t) (formAddress bound (.indexedY t)) = .zpy := by
      rw [formAddress_of_unbound rfl hunbound, inferMode_stx_unknown]
    refine ⟨by rw [placeLine_size hstx, hmode]; rfl, fun hnarrow => ?_⟩
    rw [emitLine_stx hstx hv, if_neg (Nat.not_lt.mpr hnarrow), placeLine_mode hstx, hmode,
      emitInstruction_stx_zpy]
  · intro w hw hwide
    have hmode : inferMode .sty (.indexedX t) (formAddress bound (.indexedX t)) = .absx := by
      rw [formAddress_of_value rfl hw, inferMode_sty_of_wide t hwide]
    rw [emitLine_sty hsty hv, placeLine_mode hsty, hmode, emitInstruction_of_no_opcode (by decide)]
  · have hmode : inferMode .sty (.indexedX t) (formAddress bound (.indexedX t)) = .zpx := by
      rw [formAddress_of_unbound rfl hunbound, inferMode_sty_unknown]
    refine ⟨by rw [placeLine_size hsty, hmode]; rfl, ?_⟩
    rw [emitLine_sty hsty hv, placeLine_mode hsty, hmode, emitInstruction_sty_zpx]

end Sys2Proof.Asm
end

section
/-!
PROOFS. Arithmetic, compares, logic and counting (41_arithmetic_logic.md R120 to R136). The adder is
settled first, on bytes; ADC and SBC are that rule at A with the operand byte and with its
complement. The others are one status computation each, and SetZN of a result.
-/

namespace Sys2Proof.Machine

/-! ## The adder -/

/-- The mask 0x80 tests the sign bit. -/
theorem and_0x80_ne_zero (x : Byte) : (x &&& 0x80#8 != 0) = x.msb := by
  have hmask : (0x80#8 : Byte) = BitVec.twoPow 8 7 := by decide
  rw [hmask, BitVec.and_twoPow, BitVec.msb_eq_getLsbD_last]
  cases x.getLsbD 7 <;> rfl

theorem addWithCarry_toNat (a m p : Byte) :
    (addWithCarry a m p).1.toNat = (a.toNat + m.toNat + (getFlag p .c).toNat) % 256 := by
  rw [addWithCarry_value, BitVec.toNat_ofNat]

theorem addWithCarry_carry_iff (a m p : Byte) :
    getFlag (addWithCarry a m p).2 .c = true ↔ 255 < a.toNat + m.toNat + (getFlag p .c).toNat := by
  rw [getFlag_addWithCarry]
  exact decide_eq_true_iff

/-- V by sign bits: the operands share one, and the result has the other (R120). -/
theorem addWithCarry_overflow_iff (a m p : Byte) :
    getFlag (addWithCarry a m p).2 .v = true ↔
      a.msb = m.msb ∧ (addWithCarry a m p).1.msb ≠ a.msb := by
  rw [getFlag_addWithCarry]
  simp only [and_0x80_ne_zero, BitVec.msb_and, BitVec.msb_not, BitVec.msb_xor]
  cases a.msb <;> cases m.msb <;> simp

/-- Sign bits tell whether a signed sum of two bytes and a carry leaves -128..127 (R120). -/
theorem signed_sum_out_of_range_iff {a m r : Byte} {c : Nat} (hc : c ≤ 1)
    (hr : r.toNat = (a.toNat + m.toNat + c) % 256) :
    a.msb = m.msb ∧ r.msb ≠ a.msb ↔
      signed a + signed m + c < -128 ∨ 127 < signed a + signed m + c := by
  have ha := a.isLt
  have hm := m.isLt
  simp only [BitVec.msb_eq_decide, signed, ne_eq, decide_eq_decide]
  omega

theorem addWithCarry_zero_iff (a m p : Byte) :
    getFlag (addWithCarry a m p).2 .z = true ↔ (addWithCarry a m p).1.toNat = 0 := by
  simp [getFlag_addWithCarry, ← BitVec.toNat_inj]

theorem addWithCarry_negative_iff (a m p : Byte) :
    getFlag (addWithCarry a m p).2 .n = true ↔ 128 ≤ (addWithCarry a m p).1.toNat := by
  simp [getFlag_addWithCarry, BitVec.msb_eq_decide]

/-- The adder keeps the flags it does not write, Decimal among them (R120). -/
theorem addWithCarry_keeps (a m p : Byte) {f : Flag} (hf : f ∉ [Flag.c, .v, .z, .n]) :
    getFlag (addWithCarry a m p).2 f = getFlag p f := by
  rw [getFlag_addWithCarry]
  cases f with
  | c | v | z | n => simp at hf
  | i | d | b | u => rfl

/-- Settles O25: the sum, then one fact per flag; the two readings of V agree by the sign bits of
the operands and the result. -/
theorem adderRule : Obligations.AdderRule := fun a m p =>
  have hsum := addWithCarry_toNat a m p
  have hv := addWithCarry_overflow_iff a m p
  ⟨hsum, addWithCarry_carry_iff a m p, hv,
    hv.trans (signed_sum_out_of_range_iff (Bool.toNat_le _) hsum),
    addWithCarry_zero_iff a m p, addWithCarry_negative_iff a m p,
    fun _ hf => addWithCarry_keeps a m p hf⟩

/-! ## ADC and SBC -/

/-- A mnemonic whose every mode has an operand byte completes as its operation on that byte. -/
theorem completes_on_operandByte {mn : Mnemonic} (hforms : ∀ f ∈ mn.forms, f.1 ∉ bytelessModes)
    {i : Instr} {o : Operand} {s : State} {post : Byte → State → Prop}
    (hshape : i.shape = .documented mn o) (h : post (operandValue o s) (operation mn o s)) :
    ∃ m, operandByte o s = some m ∧ Completes i s (post m) :=
  ⟨operandValue o s, operandByte_eq_operandValue s (mode_not_mem_of_forms hforms hshape),
    completes_of_operation hshape h⟩

/-- What ADC and SBC have in common: Z and N of the new A, and the frame (R120). -/
theorem addToA_zn_frame (m : Byte) (s : State) :
    ZeroNegativeOf (addToA m s).a (addToA m s) ∧
    KeepsAllBut [.a] [.c, .v, .z, .n] s (addToA m s) ∧ KeepsMemory s (addToA m s) ∧
    (addToA m s).pc = s.pc :=
  ⟨⟨addWithCarry_zero_iff s.a m s.p, addWithCarry_negative_iff s.a m s.p⟩,
    (keepsAllBut_addToA m s).mono (List.Subset.refl _) (by decide), keepsMemory_of_eq rfl rfl, rfl⟩

/-- Settles O26: the adder's rule at A and the operand byte, and the frame. -/
theorem adcResult : Obligations.AdcResult := by
  refine ⟨encodedAs_forms .adc, fun i o s hshape =>
    completes_on_operandByte (by decide) hshape ?_⟩
  obtain ⟨hsum, hcarry, -, hsigned, -, -, -⟩ := adderRule s.a (operandValue o s) s.p
  exact ⟨hsum, hcarry, hsigned, addToA_zn_frame _ s⟩

/-- The complement that SBC adds is 255 less the operand (R122). -/
theorem complement_toNat (m : Byte) : (m ^^^ 0xFF#8).toNat = 255 - m.toNat := by
  have hmask : (0xFF#8 : Byte) = BitVec.allOnes 8 := by decide
  rw [hmask, BitVec.xor_allOnes, BitVec.toNat_not]

/-- As a signed byte, the complement is -1 less the operand. -/
theorem signed_complement (m : Byte) : signed (m ^^^ 0xFF#8) = -1 - signed m := by
  have hm := m.isLt
  simp only [signed, complement_toNat]
  omega

/-- Adding the complement and the carry subtracts the operand and the borrow, modulo 256. -/
theorem sbc_value (a m p : Byte) :
    ((addWithCarry a (m ^^^ 0xFF#8) p).1.toNat : Int) =
      ((a.toNat : Int) - m.toNat - (1 - (getFlag p .c).toNat : Nat)) % 256 := by
  have hc := Bool.toNat_le (getFlag p .c)
  have hm := m.isLt
  rw [addWithCarry_toNat, complement_toNat]
  omega

/-- The carry out of the sum with the complement is "no borrow" (R122). -/
theorem sbc_carry_iff (a m p : Byte) :
    getFlag (addWithCarry a (m ^^^ 0xFF#8) p).2 .c = true ↔
      m.toNat + (1 - (getFlag p .c).toNat) ≤ a.toNat := by
  have hc := Bool.toNat_le (getFlag p .c)
  have hm := m.isLt
  rw [addWithCarry_carry_iff, complement_toNat]
  omega

/-- The signed overflow of the sum with the complement is that of the difference (R122). -/
theorem sbc_overflow_iff (a m p : Byte) :
    getFlag (addWithCarry a (m ^^^ 0xFF#8) p).2 .v = true ↔
      signed a - signed m - (1 - (getFlag p .c).toNat : Nat) < -128 ∨
        127 < signed a - signed m - (1 - (getFlag p .c).toNat : Nat) := by
  have hc := Bool.toNat_le (getFlag p .c)
  obtain ⟨-, -, -, hsigned, -, -, -⟩ := adderRule a (m ^^^ 0xFF#8) p
  rw [hsigned, signed_complement]
  omega

/-- Settles O27: the adder on the complemented operand, read as a subtraction with borrow. -/
theorem sbcResult : Obligations.SbcResult := by
  refine ⟨encodedAs_forms .sbc, fun i o s hshape =>
    completes_on_operandByte (by decide) hshape ?_⟩
  exact ⟨rfl, sbc_value s.a _ s.p, sbc_carry_iff s.a _ s.p, sbc_overflow_iff s.a _ s.p,
    addToA_zn_frame _ s⟩

/-! ## Compares -/

/-- A compare is C, then SetZN of the difference; both write P alone (R123). -/
theorem comparesTo_compareReg (r m : Byte) (s : State) : ComparesTo r m s (compareReg r m s) := by
  have hcarry : getFlag (compareReg r m s).p .c = true ↔ m.toNat ≤ r.toNat := by
    rw [compareReg, State.setP_p, getFlag_compareStatus]
    exact decide_eq_true_iff
  exact ⟨hcarry, zeroNegativeOf_setZN (s.setFlag .c (r.toNat ≥ m.toNat)) (r - m),
    keepsAllBut_compareReg r m s, keepsMemory_of_eq rfl rfl, rfl⟩

/-- Settles O28: three rows of the table, and one compare with three registers. -/
theorem compareResults : Obligations.CompareResults := by
  refine ⟨encodedAs_forms .cmp, encodedAs_forms .cpx, encodedAs_forms .cpy, ?_⟩
  intro mn r hcompare i o s hshape
  simp only [List.mem_cons, List.not_mem_nil, or_false, Prod.mk.injEq] at hcompare
  obtain ⟨rfl, rfl⟩ | ⟨rfl, rfl⟩ | ⟨rfl, rfl⟩ := hcompare
  · exact completes_on_operandByte (by decide) hshape (comparesTo_compareReg s.a _ s)
  · exact completes_on_operandByte (by decide) hshape (comparesTo_compareReg s.x _ s)
  · exact completes_on_operandByte (by decide) hshape (comparesTo_compareReg s.y _ s)

/-! ## Logic -/

theorem loadsRegister_logicToA (r : Byte) (s : State) :
    LoadsRegister .a r s (logicToA r s) := loadsRegister_setA s r

/-- Settles O29: three rows of the table, and A takes one of three results. -/
theorem logicResults : Obligations.LogicResults := by
  refine ⟨encodedAs_forms .and, encodedAs_forms .ora, encodedAs_forms .eor, fun i o s => ?_⟩
  refine ⟨fun hand => ?_, fun hora => ?_, fun heor => ?_⟩
  · exact completes_on_operandByte (by decide) hand (loadsRegister_logicToA _ s)
  · exact completes_on_operandByte (by decide) hora (loadsRegister_logicToA _ s)
  · exact completes_on_operandByte (by decide) heor (loadsRegister_logicToA _ s)

/-- BIT's three flags: Z from A & M, N and V from the operand itself (R130). -/
theorem bitTest_flags (m : Byte) (s : State) :
    (getFlag (bitTest m s).p .z = true ↔ s.a &&& m = 0#8) ∧
    getFlag (bitTest m s).p .n = m.getLsbD 7 ∧ getFlag (bitTest m s).p .v = m.getLsbD 6 := by
  refine ⟨?_, getFlag_bitStatus s.a m s.p .n, getFlag_bitStatus s.a m s.p .v⟩
  rw [bitTest, State.setP_p, getFlag_bitStatus]
  exact beq_iff_eq

/-- Settles O30: the flags of BIT, and the frame. -/
theorem bitResult : Obligations.BitResult := by
  refine ⟨encodedAs_forms .bit, fun i o s hshape =>
    completes_on_operandByte (by decide) hshape ?_⟩
  obtain ⟨hz, hn, hv⟩ := bitTest_flags (operandValue o s) s
  exact ⟨hz, hn, hv, (keepsAllBut_bitTest _ s).mono (List.Subset.refl _) (by decide),
    keepsMemory_of_eq rfl rfl, rfl⟩

/-! ## Counting -/

theorem ofNat_toNat_add_one (b : Byte) : BitVec.ofNat 8 (b.toNat + 1) = b + 1 := by
  bv_omega

/-- Modulo 256, adding 255 counts down. -/
theorem ofNat_toNat_add_255 (b : Byte) : BitVec.ofNat 8 (b.toNat + 255) = b - 1 := by
  bv_omega

/-- The byte at an address takes its value plus `d`, modulo 256: one read, one write, then SetZN of
the byte written (R131, R132). -/
def addToByte (d : Nat) (ea : Word) (s : State) : State :=
  let r := BitVec.ofNat 8 ((s.readByte ea).toNat + d)
  (s.writeByte ea r).setZN r

theorem inc_eq_addToByte (ea : Word) (s : State) : inc ea s = addToByte 1 ea s := by
  simp only [inc, addToByte, ofNat_toNat_add_one]

theorem dec_eq_addToByte (ea : Word) (s : State) : dec ea s = addToByte 255 ea s := by
  simp only [dec, addToByte, ofNat_toNat_add_255]

/-- A mnemonic whose every mode names an address and whose operation counts the byte
there completes with that byte stored. -/
theorem addToByte_completes {mn : Mnemonic} {d : Nat}
    (hforms : ∀ f ∈ mn.forms, f.1 ∉ addresslessModes)
    (hop : ∀ o s, operation mn o s = addToByte d (operandPlace o s) s)
    {i : Instr} {o : Operand} (hshape : i.shape = .documented mn o) (s : State) :
    ∃ ea r, operandAddress o s = some ea ∧ r = BitVec.ofNat 8 ((s.readByte ea).toNat + d) ∧
      Completes i s fun t => StoresByte ea r s t ∧ ZeroNegativeOf r t ∧
        KeepsAllBut [] [.z, .n] s t ∧ t.pc = s.pc := by
  refine ⟨operandPlace o s, _,
    operandAddress_eq_operandPlace s (mode_not_mem_of_forms hforms hshape), rfl,
    completes_of_operation hshape ?_⟩
  rw [hop]
  exact ⟨writeByte_storesByte s _ _, zeroNegativeOf_setZN _ _,
    (keepsAllBut_writeByte s _ _).trans (keepsAllBut_setZN _ _), s.writeByte_pc _ _⟩

/-- Settles O31: INC adds 1 to the byte it names, and DEC adds 255. -/
theorem incDecMemoryResults : Obligations.IncDecMemoryResults := by
  refine ⟨encodedAs_forms .inc, encodedAs_forms .dec, ?_⟩
  intro mn d hcount i o s hshape
  simp only [List.mem_cons, List.not_mem_nil, or_false, Prod.mk.injEq] at hcount
  obtain ⟨rfl, rfl⟩ | ⟨rfl, rfl⟩ := hcount
  · exact addToByte_completes (mn := .inc) (by decide) (fun _ t => inc_eq_addToByte _ t) hshape s
  · exact addToByte_completes (mn := .dec) (by decide) (fun _ t => dec_eq_addToByte _ t) hshape s

/-- Settles O32: each is a register write of the counted value, then SetZN of it. -/
theorem indexCountResults : Obligations.IndexCountResults := by
  refine ⟨encodedAs_forms .inx, encodedAs_forms .iny, encodedAs_forms .dex, encodedAs_forms .dey,
    fun s => ?_⟩
  simp only [ofNat_toNat_add_one, ofNat_toNat_add_255]
  exact ⟨⟨_, rfl, loadsRegister_setX s _⟩, ⟨_, rfl, loadsRegister_setY s _⟩,
    ⟨_, rfl, loadsRegister_setX s _⟩, ⟨_, rfl, loadsRegister_setY s _⟩⟩

end Sys2Proof.Machine
end

section
/-!
PROOFS. Shifts and rotates (42_shift_rotate.md R140 to R144). Each of the four functions on a byte
is settled first, as arithmetic modulo 256. The operation around it is one of two: on A, or on the
byte at the address a memory operand names.
-/

namespace Sys2Proof.Machine

/-! ## The four functions on a byte -/

theorem getLsbD_seven_iff (v : Byte) : v.getLsbD 7 = true ↔ 128 ≤ v.toNat := by
  rw [← BitVec.msb_eq_getLsbD_last v, BitVec.msb_eq_decide]
  exact decide_eq_true_iff

theorem getLsbD_zero_iff (v : Byte) : v.getLsbD 0 = true ↔ v.toNat % 2 = 1 := by
  rw [BitVec.getLsbD, Nat.testBit_zero]
  exact decide_eq_true_iff

theorem shiftLeft_one_toNat (v : Byte) : (v <<< 1).toNat = 2 * v.toNat % 256 := by
  rw [BitVec.toNat_shiftLeft, Nat.shiftLeft_eq, Nat.mul_comm]

theorem shiftRight_one_toNat (v : Byte) : (v >>> 1).toNat = v.toNat / 2 := by
  rw [BitVec.toNat_ushiftRight, Nat.shiftRight_eq_div_pow]

/-- The left shift leaves bit 0 free, so the carry put there is added (R143). -/
theorem rolByte_toNat (v : Byte) (c : Bool) :
    (rolByte v c).1.toNat = (2 * v.toNat + c.toNat) % 256 := by
  have hc := Bool.toNat_le c
  have hfree : 2 * v.toNat % 256 = 2 ^ 1 * (v.toNat % 128) := by omega
  have hbit : (BitVec.ofNat 8 c.toNat).toNat = c.toNat := by rw [BitVec.toNat_ofNat]; omega
  rw [rolByte, BitVec.toNat_or, shiftLeft_one_toNat, hbit, hfree,
    ← Nat.two_pow_add_eq_or_of_lt (by omega)]
  omega

/-- The right shift leaves bit 7 free, so the carry put there is added (R144). -/
theorem rorByte_toNat (v : Byte) (c : Bool) :
    (rorByte v c).1.toNat = v.toNat / 2 + 128 * c.toNat := by
  have hv := v.isLt
  have hbit : (BitVec.ofNat 8 c.toNat <<< 7).toNat = 2 ^ 7 * c.toNat := by
    cases c with
    | false | true => rfl
  rw [rorByte, BitVec.toNat_or, shiftRight_one_toNat, hbit, Nat.or_comm,
    ← Nat.two_pow_add_eq_or_of_lt (by omega), Nat.add_comm]

theorem shiftsTo_aslByte (v : Byte) (c : Bool) :
    ShiftsTo .asl v c (aslByte v c).1 (aslByte v c).2 :=
  .inl ⟨rfl, shiftLeft_one_toNat v, getLsbD_seven_iff v⟩

theorem shiftsTo_lsrByte (v : Byte) (c : Bool) :
    ShiftsTo .lsr v c (lsrByte v c).1 (lsrByte v c).2 :=
  .inr (.inl ⟨rfl, shiftRight_one_toNat v, getLsbD_zero_iff v⟩)

theorem shiftsTo_rolByte (v : Byte) (c : Bool) :
    ShiftsTo .rol v c (rolByte v c).1 (rolByte v c).2 :=
  .inr (.inr (.inl ⟨rfl, rolByte_toNat v c, getLsbD_seven_iff v⟩))

theorem shiftsTo_rorByte (v : Byte) (c : Bool) :
    ShiftsTo .ror v c (rorByte v c).1 (rorByte v c).2 :=
  .inr (.inr (.inr ⟨rfl, rorByte_toNat v c, getLsbD_zero_iff v⟩))

/-! ## The operation in A and in memory -/

/-- The state `t` after a shift or rotate of the operand of `s`: it holds the result in place of the
operand, C is the bit shifted out and Z and N are the result's (R140); the rest is as in `s`. -/
def ShiftLeaves (o : Operand) (out : Byte × Bool) (s t : State) : Prop :=
  getFlag t.p .c = out.2 ∧ ZeroNegativeOf out.1 t ∧ t.pc = s.pc ∧
  (o = .acc → t.a = out.1 ∧ KeepsAllBut [.a] [.c, .z, .n] s t ∧ KeepsMemory s t) ∧
  (o ≠ .acc → ∃ ea, operandAddress o s = some ea ∧ StoresByte ea out.1 s t ∧
    KeepsAllBut [] [.c, .z, .n] s t)

/-- The status after a shift or rotate is SetZN of the result, after C is written (R140). -/
theorem zeroNegativeOf_setP_shiftStatus (out : Byte × Bool) (p : Byte) (s : State) :
    ZeroNegativeOf out.1 (s.setP (shiftStatus out p)) :=
  zeroNegativeOf_setZN (s.setP (setFlag p .c out.2)) out.1

theorem shiftLeaves_shiftA (f : Byte → Bool → Byte × Bool) (s : State) :
    ShiftLeaves .acc (f s.a (getFlag s.p .c)) s (shiftA f s) :=
  ⟨getFlag_shiftStatus _ s.p .c, zeroNegativeOf_setP_shiftStatus _ s.p (s.setA _), rfl,
    fun _ => ⟨rfl, keepsAllBut_shiftA f s, keepsMemory_shiftA f s⟩, fun hne => absurd rfl hne⟩

theorem shiftLeaves_shiftMemory (f : Byte → Bool → Byte × Bool) {o : Operand} {ea : Word}
    {s : State} (hea : operandAddress o s = some ea) :
    ShiftLeaves o (f (s.readByte ea) (getFlag s.p .c)) s (shiftMemory f ea s) := by
  refine ⟨getFlag_shiftStatus _ s.p .c, zeroNegativeOf_setP_shiftStatus _ s.p (s.writeByte ea _),
    s.writeByte_pc ea _, ?_, fun _ => ⟨ea, hea, ?_, keepsAllBut_shiftMemory f ea s⟩⟩
  · rintro rfl
    cases hea
  · exact writeByte_storesByte s ea _

theorem eq_acc_of_mode_eq_acc {o : Operand} (h : o.mode = .acc) : o = .acc := by
  cases o with
  | acc => rfl
  | imp | imm | zp | zpx | zpy | abs | absx | absy | ind | indx | indy | rel => cases h

/-- A mnemonic whose every mode but accumulator names an address and whose operation is the shift by
a function completes with what that function makes of the operand byte and the old carry. -/
theorem shift_completes {mn : Mnemonic} {f : Byte → Bool → Byte × Bool}
    (hforms : ∀ form ∈ mn.forms, form.1 ∉ addresslessModes.erase .acc)
    (hop : ∀ o s, operation mn o s = shift f o s)
    (hbyte : ∀ v c, ShiftsTo mn v c (f v c).1 (f v c).2)
    {i : Instr} {o : Operand} (hshape : i.shape = .documented mn o) (s : State) :
    ∃ v r out, operandByte o s = some v ∧ ShiftsTo mn v (getFlag s.p .c) r out ∧
      Completes i s (ShiftLeaves o (r, out) s) := by
  by_cases ho : o = .acc
  · subst ho
    refine ⟨s.a, _, _, rfl, hbyte _ _, completes_of_operation hshape ?_⟩
    rw [hop]
    exact shiftLeaves_shiftA f s
  · have hmode : o.mode ∉ addresslessModes := fun hmem =>
      mode_not_mem_of_forms hforms hshape
        ((List.mem_erase_of_ne (mt eq_acc_of_mode_eq_acc ho)).mpr hmem)
    have hea := operandAddress_eq_operandPlace s hmode
    refine ⟨s.readByte (operandPlace o s), _, _, operandByte_of_operandAddress hea, hbyte _ _,
      completes_of_operation hshape ?_⟩
    rw [hop, shift_of_ne_acc f s ho]
    exact shiftLeaves_shiftMemory f hea

/-- Settles O33: four rows of the table, and the shift by one of four functions. -/
theorem shiftResults : Obligations.ShiftResults := by
  refine ⟨encodedAs_forms .asl, encodedAs_forms .lsr, encodedAs_forms .rol, encodedAs_forms .ror,
    ?_⟩
  intro mn i o s hmn hshape
  simp only [List.mem_cons, List.not_mem_nil, or_false] at hmn
  obtain rfl | rfl | rfl | rfl := hmn
  · exact shift_completes (by decide) (fun _ _ => rfl) shiftsTo_aslByte hshape s
  · exact shift_completes (by decide) (fun _ _ => rfl) shiftsTo_lsrByte hshape s
  · exact shift_completes (by decide) (fun _ _ => rfl) shiftsTo_rolByte hshape s
  · exact shift_completes (by decide) (fun _ _ => rfl) shiftsTo_rorByte hshape s

end Sys2Proof.Machine
end

section
/-!
PROOFS. Branches, calls and returns (43_control_transfer.md R150 to R163, 70_reset_and_hazards.md
R229). The eight branches are one operation: PC plus the signed displacement, if the flag of the
mnemonic's entry in `branchConditions` has the entry's value. JSR and RTS are a push and a pull of a
word, and the parked states are those whose step sets PC to what it was.
-/

namespace Sys2Proof.Machine

/-! ## Branches -/

/-- The sign extension of a displacement adds its signed value, modulo 65536 (R10, R74). -/
theorem add_signExtend_toNat (w : Word) (d : Byte) :
    ((w + signExtend d).toNat : Int) = ((w.toNat : Int) + signed d) % 65536 := by
  have hd := d.isLt
  simp only [signExtend, signed, BitVec.toNat_add, BitVec.toNat_signExtend,
    BitVec.toNat_setWidth, BitVec.msb_eq_decide]
  by_cases hneg : 128 ≤ d.toNat
  · simp only [hneg, decide_true, if_true]
    omega
  · simp only [hneg, decide_false, Bool.false_eq_true, if_false]
    omega

theorem branch_pc_toNat (taken : Bool) (d : Byte) (s : State) :
    ((branch taken d s).pc.toNat : Int) =
      ((s.pc.toNat : Int) + if taken = true then signed d else 0) % 65536 := by
  cases taken with
  | false =>
    have hpc := s.pc.isLt
    simp only [branch, Bool.false_eq_true, if_false]
    omega
  | true => exact add_signExtend_toNat s.pc d

section
variable {mn : Mnemonic} {op : Byte} {f : Flag} {v : Bool}

/-- Each branch has one form: its opcode, in relative mode (R151 to R158). -/
theorem forms_of_mem_branchConditions (h : (mn, op, f, v) ∈ branchConditions) :
    mn.forms = [(.rel, op)] := by
  have hall : ∀ b ∈ branchConditions, b.1.forms = [(.rel, b.2.1)] := by decide
  exact hall _ h

/-- Each branch is the branch operation on "its flag has the value it tests" (R150). -/
theorem operation_of_mem_branchConditions (h : (mn, op, f, v) ∈ branchConditions) (o : Operand)
    (s : State) : operation mn o s = branch (getFlag s.p f == v) (displacement o) s := by
  have hall : ∀ b ∈ branchConditions,
      operation b.1 o s = branch (getFlag s.p b.2.2.1 == b.2.2.2) (displacement o) s := by
    simp [branchConditions, operation]
  exact hall _ h

/-- The operand of a branch is a displacement (R74). -/
theorem operand_eq_rel_of_branch (h : (mn, op, f, v) ∈ branchConditions) {i : Instr} {o : Operand}
    (hshape : i.shape = .documented mn o) : ∃ d, o = .rel d := by
  obtain ⟨op', hop, -⟩ := encode_of_shape hshape
  have hmem := Mnemonic.mem_forms.mpr hop
  rw [forms_of_mem_branchConditions h, List.mem_singleton, Prod.mk.injEq] at hmem
  cases o with
  | rel d => exact ⟨d, rfl⟩
  | imp | acc | imm | zp | zpx | zpy | abs | absx | absy | ind | indx | indy => cases hmem.1

/-- A step at a branch: PC passes the two bytes of the instruction, then the operation (R150). -/
theorem step_at_branch (h : (mn, op, f, v) ∈ branchConditions) {d : Byte} {s : State}
    (hshape : s.fetch.shape = .documented mn (.rel d)) :
    step s = .next (branch (getFlag s.p f == v) d (s.setPc (s.pc + 2#16))) := by
  have hpass : s.passInstr s.fetch = s.setPc (s.pc + 2#16) := by
    rw [State.passInstr, Instr.length, hshape]
    rfl
  rw [step_eq, exec_eq_effect, hshape, effect_documented, operation_of_mem_branchConditions h, hpass]
  rfl

end

/-- Settles O34: each branch is the branch operation on its flag, and a step runs it two bytes on. -/
theorem branchResults : Obligations.BranchResults := by
  intro mn op f v hmem
  refine ⟨forms_of_mem_branchConditions hmem ▸ encodedAs_forms mn, fun i o s hshape => ?_⟩
  obtain ⟨d, rfl⟩ := operand_eq_rel_of_branch hmem hshape
  refine ⟨d, rfl, completes_of_operation hshape ?_, ?_⟩
  · rw [operation_of_mem_branchConditions hmem]
    refine ⟨fun htaken => ?_, fun hnot => ?_, keepsAllBut_branch _ d s, keepsMemory_branch _ d s⟩
    · rw [branch_pc_toNat, if_pos (beq_iff_eq.mpr htaken)]
      rfl
    · rw [branch, if_neg (mt beq_iff_eq.mp hnot)]
  · rintro rfl
    refine ⟨_, step_at_branch hmem hshape, ?_⟩
    simp only [branch_pc_toNat, beq_iff_eq, State.setPc_pc, BitVec.toNat_add, BitVec.toNat_ofNat]
    omega

/-! ## Calls and returns -/

theorem stackAddress_ne_pred (sp : Byte) : stackAddress sp ≠ stackAddress (sp - 1#8) := by
  rw [ne_eq, stackAddress_inj]
  bv_omega

/-- Settles O36: the push of PC − 1 stores its two bytes, and the jump writes PC alone. -/
theorem jsrResult : Obligations.JsrResult := by
  refine ⟨encodedAs_forms .jsr, fun s target => ⟨callSubroutine target s, rfl, rfl, ?_⟩⟩
  have hmem : (callSubroutine target s).mem =
      (s.mem.write (stackAddress s.sp) (s.pc - 1#16).highByte).write (stackAddress (s.sp - 1#8))
        (s.pc - 1#16).lowByte := s.push16_mem (s.pc - 1#16)
  have hsp : (callSubroutine target s).sp = s.sp - 2#8 := BitVec.sub_sub s.sp 1 1
  refine ⟨hsp, ?_, ?_, fun ea hhigh hlow => ?_, s.push16_console _,
    keepsAllBut_callSubroutine target s⟩
  · rw [hmem, Memory.read_write, if_neg (stackAddress_ne_pred s.sp), Memory.read_write, if_pos rfl]
    rfl
  · rw [hmem, Memory.read_write]
    exact if_pos rfl
  · rw [hmem, Memory.read_write, if_neg hlow, Memory.read_write, if_neg hhigh]

theorem returnFromSubroutine_pc (s : State) :
    (returnFromSubroutine s).pc =
      Word.ofBytes (s.mem.read (stackAddress (s.sp + 2#8))) (s.mem.read (stackAddress (s.sp + 1#8)))
        + 1#16 := by
  rw [returnFromSubroutine, State.pull16_eq, BitVec.add_assoc]
  rfl

theorem returnFromSubroutine_sp (s : State) : (returnFromSubroutine s).sp = s.sp + 2#8 :=
  BitVec.add_assoc s.sp 1 1

/-- Settles O37: the word pulled plus 1, SP two up, and the frame. -/
theorem rtsResult : Obligations.RtsResult := by
  refine ⟨encodedAs_forms .rts, fun s => ⟨returnFromSubroutine s, rfl, ?_,
    returnFromSubroutine_sp s, keepsAllBut_returnFromSubroutine s, keepsMemory_of_eq rfl rfl⟩⟩
  rw [returnFromSubroutine_pc, BitVec.toNat_add, Word.ofBytes_toNat,
    s.readByte_of_ne (stackAddress_ne_port _), s.readByte_of_ne (stackAddress_ne_port _),
    BitVec.toNat_ofNat]
  omega

/-- Settles O38, from the bytes that JSR pushed: they are those of PC − 1, at the two places above
the SP it left, where RTS pulls them. -/
theorem callThenReturn : Obligations.CallThenReturn := by
  intro s target
  obtain ⟨t, hexec, -, htsp, hthigh, htlow, -⟩ := jsrResult.2 s target
  refine ⟨t, hexec, fun u husp huhigh hulow => ⟨returnFromSubroutine u, rfl, ?_, ?_⟩⟩
  · have hhighAt : u.sp + 2#8 = s.sp := by rw [husp, htsp, BitVec.sub_add_cancel]
    have hlowAt : u.sp + 1#8 = s.sp - 1#8 := by rw [husp, htsp]; bv_omega
    calc (returnFromSubroutine u).pc
        = Word.ofBytes (s.pc - 1#16).highByte (s.pc - 1#16).lowByte + 1#16 := by
          rw [returnFromSubroutine_pc, hhighAt, hlowAt, huhigh, hulow, hthigh, htlow]
          rfl
      _ = s.pc := by rw [Word.ofBytes_bytes, BitVec.sub_add_cancel]
  · rw [returnFromSubroutine_sp, husp, htsp, BitVec.sub_add_cancel]

/-! ## Parked states -/

/-- A state whose step does no more than set PC to what it was is parked (R229). -/
theorem parked_of_step_setPc {s : State} {w : Word} (hstep : step s = .next (s.setPc w))
    (hw : w = s.pc) : s.parked := by
  rw [State.parked, hstep, hw]
  rfl

/-- The opcode 0x4C is JMP to the word of the two bytes after it (R159). -/
theorem decodeOp_0x4C (b1 b2 : Byte) : decodeOp 0x4C#8 b1 b2 = .jmpAbs (Word.ofBytes b2 b1) := rfl

/-- The opcode of a branch is read as that branch by the byte after it (R62, R151 to R158). -/
theorem shape_decodeOp_branch {mn : Mnemonic} {op : Byte} {f : Flag} {v : Bool}
    (h : (mn, op, f, v) ∈ branchConditions) (b1 b2 : Byte) :
    (decodeOp op b1 b2).shape = .documented mn (.rel b1) := by
  obtain ⟨o, hshape, -⟩ := decodeOp_of_table (Asm.opcode_rel_of_mem_branchConditions h) b1 b2
  obtain ⟨d, rfl⟩ := operand_eq_rel_of_branch h hshape
  obtain ⟨-, hbytes⟩ := decodeOp_documented hshape
  obtain rfl : d = b1 := List.head_eq_of_cons_eq hbytes
  exact hshape

/-- Settles O52: both steps set PC to its old value, the displacement 0xFE being -2. -/
theorem selfJumpIsParked : Obligations.SelfJumpIsParked := by
  constructor
  · intro s hop htarget
    refine parked_of_step_setPc ?_ htarget
    rw [step_eq, State.fetch, hop, decodeOp_0x4C]
    rfl
  · intro s mn op f v hmem hop hdisp hflag
    have hshape : s.fetch.shape = .documented mn (.rel 0xFE#8) := by
      rw [State.fetch, hop, hdisp]
      exact shape_decodeOp_branch hmem _ _
    have hback : 2#16 + signExtend 0xFE#8 = 0#16 := by decide
    refine parked_of_step_setPc (w := s.pc + 2#16 + signExtend 0xFE#8) ?_ ?_
    · rw [step_at_branch hmem hshape, beq_iff_eq.mpr hflag]
      rfl
    · rw [BitVec.add_assoc, hback, BitVec.add_zero]

end Sys2Proof.Machine
end

section
/-!
PROOFS. Stack, flags and system (44_stack_flags_system.md R170 to R184; 60_exceptions.md R204,
R205). PHA and PHP are a push, PLA and PLP a pull and a register write, and a flag instruction is
one flag write. BRK is three pushes and a jump through a vector that no push reaches; RTI is three pulls. NOP
and the unassigned bytes change nothing, so a step at one moves PC by its length.
-/

namespace Sys2Proof.Machine

/-! ## Pushes and pulls -/

/-- An instruction that pushes a byte: the store at SP, SP one down, and the frame (R13). -/
theorem push8_completes {i : Instr} {s : State} {v : Byte} (hexec : exec i s = .next (s.push8 v)) :
    Completes i s fun t => StoresByte (stackAddress s.sp) v s t ∧ t.sp = s.sp - 1#8 ∧
      KeepsAllBut [.sp] [] s t ∧ t.pc = s.pc :=
  ⟨_, hexec, push8_storesByte s v, s.push8_sp v, keepsAllBut_push8 s v, s.push8_pc v⟩

/-- Settles O39: both push one byte, A and the status with Break and Unused 1. -/
theorem pushResults : Obligations.PushResults := by
  refine ⟨encodedAs_forms .pha, encodedAs_forms .php, fun s i v hpush => ?_⟩
  simp only [List.mem_cons, List.not_mem_nil, or_false, Prod.mk.injEq] at hpush
  obtain ⟨rfl, rfl⟩ | ⟨rfl, rfl⟩ := hpush
  · exact push8_completes rfl
  · exact push8_completes rfl

/-- Settles O40: both take the byte above SP, PLA into A with SetZN, PLP into P restored. -/
theorem pullResults : Obligations.PullResults := by
  refine ⟨encodedAs_forms .pla, encodedAs_forms .plp, fun s => ⟨⟨pullA s, rfl, ?_⟩,
    ⟨pullStatus s, rfl, ?_⟩⟩⟩
  · exact ⟨rfl, zeroNegativeOf_setZN (s.pull8.2.setA s.pull8.1) s.pull8.1, rfl,
      (keepsAllBut_pullA s).mono (by decide) (List.Subset.refl _), keepsMemory_of_eq rfl rfl, rfl⟩
  · exact ⟨rfl, rfl, keepsAllBut_pullStatus s, keepsMemory_of_eq rfl rfl, rfl⟩

/-! ## Flag instructions -/

section
variable {mn : Mnemonic} {op : Byte} {f : Flag} {v : Bool}

/-- Each flag instruction has one form: its opcode, in implied mode (R174 to R180). -/
theorem forms_of_mem_flagInstructions (h : (mn, op, f, v) ∈ flagInstructions) :
    mn.forms = [(.imp, op)] := by
  have hall : ∀ b ∈ flagInstructions, b.1.forms = [(.imp, b.2.1)] := by decide
  exact hall _ h

/-- Each flag instruction is the write of its value to its flag (R174 to R180). -/
theorem operation_of_mem_flagInstructions (h : (mn, op, f, v) ∈ flagInstructions) (o : Operand)
    (s : State) : operation mn o s = s.setFlag f v := by
  have hall : ∀ b ∈ flagInstructions, operation b.1 o s = s.setFlag b.2.2.1 b.2.2.2 := by
    simp [flagInstructions, operation]
  exact hall _ h

end

/-- Settles O41: the flag written reads as its value, and the write keeps every other. -/
theorem flagInstructionResults : Obligations.FlagInstructionResults := by
  intro mn op f v hmem
  refine ⟨forms_of_mem_flagInstructions hmem ▸ encodedAs_forms mn, fun i o s hshape =>
    completes_of_operation hshape ?_⟩
  rw [operation_of_mem_flagInstructions hmem]
  have hflag : getFlag (s.setFlag f v).p f = v := by simp
  exact ⟨hflag, keepsAllBut_setFlag s f v, keepsMemory_of_eq rfl rfl, rfl⟩

/-! ## No-operations -/

/-- A step at a one-byte instruction that changes nothing advances PC by 1, and no more. -/
theorem step_of_exec_inert {s : State} (hlength : s.fetch.length = 1)
    (hexec : ∀ t, exec s.fetch t = .next t) : step s = .next (s.setPc (s.pc + 1#16)) := by
  rw [step_eq, hexec, State.passInstr, hlength]

/-- The opcode 0xEA is NOP, whatever bytes follow it (R181). -/
theorem decodeOp_0xEA (b1 b2 : Byte) : decodeOp 0xEA#8 b1 b2 = .nop := rfl

/-- Settles O42: NOP's operation is the identity, and its length is 1. -/
theorem nopResult : Obligations.NopResult := by
  refine ⟨encodedAs_forms .nop, fun s => rfl, fun s hop => ?_⟩
  have hfetch : s.fetch = .nop := by rw [State.fetch, s.codeByte_zero, hop, decodeOp_0xEA]
  exact step_of_exec_inert (hfetch ▸ rfl) (hfetch ▸ fun _ => rfl)

theorem exec_of_unassigned {i : Instr} {b : Byte} (h : i.shape = .unassigned b) (s : State) :
    exec i s = .next s :=
  (exec_nop_eq_of_unassigned h s).symm.trans (nopResult.2.1 s)

/-- A byte that is not in the table is read as itself, whatever bytes follow (R77). -/
theorem shape_decodeOp_of_mem_unassigned {b : Byte} (h : b ∈ unassignedOpcodes) (b1 b2 : Byte) :
    (decodeOp b b1 b2).shape = .unassigned b := by
  obtain ⟨-, -, hread⟩ := decoderIsTotal
  obtain ⟨-, hshape⟩ | ⟨hnot, -⟩ := hread b b1 b2
  · exact hshape
  · exact absurd h hnot

/-- Settles O43: the byte at PC is read as itself, and its instruction is a no-op of length 1. -/
theorem unassignedOpcodesAreNoOps : Obligations.UnassignedOpcodesAreNoOps := by
  obtain ⟨hcount, hnodup, -⟩ := decoderIsTotal
  refine ⟨hcount, hnodup, fun i b hshape => ?_, fun s hop => ?_⟩
  · obtain ⟨hmem, henc⟩ := encode_unassigned hshape
    exact ⟨hmem, henc, exec_of_unassigned hshape⟩
  · have hshape : s.fetch.shape = .unassigned (s.readByte s.pc) := by
      rw [State.fetch, s.codeByte_zero]
      exact shape_decodeOp_of_mem_unassigned hop _ _
    have hlength : s.fetch.length = 1 := by
      rw [Instr.length, hshape]
      rfl
    exact step_of_exec_inert hlength (exec_of_unassigned hshape)

/-! ## The trap -/

/-- The stack lies in page 1 (R13): no stack access reaches an address above it. -/
theorem stackAddress_ne_of_le {sp : Byte} {w : Word} (h : 0x0200 ≤ w.toNat) :
    stackAddress sp ≠ w := by
  rintro rfl
  have hsp := sp.isLt
  rw [stackAddress_toNat] at h
  omega

/-- No push reaches BRK's vector (R54, R227). -/
theorem stackAddress_ne_breakVector (sp : Byte) :
    stackAddress sp ≠ Config.breakVector ∧ stackAddress sp ≠ Config.breakVector + 1#16 :=
  ⟨stackAddress_ne_of_le (by decide), stackAddress_ne_of_le (by decide)⟩

/-- What trap entry leaves in memory: the three saved bytes, and every other as it was (R204). -/
theorem enterTrap_read (s : State) (w vector : Word) (ea : Word) :
    (s.enterTrap w vector).mem.read ea =
      if ea = stackAddress (s.sp - 2#8) then pushedStatus s.p
      else if ea = stackAddress (s.sp - 1#8) then w.lowByte
      else if ea = stackAddress s.sp then w.highByte else s.mem.read ea := by
  have hsp : s.sp - 1 - 1 = s.sp - 2#8 := BitVec.sub_sub s.sp 1 1
  rw [State.enterTrap_mem, hsp, Memory.read_write, Memory.read_write, Memory.read_write]
  rfl

theorem stackAddress_ne_pred_pred (sp : Byte) :
    stackAddress sp ≠ stackAddress (sp - 2#8) ∧
    stackAddress (sp - 1#8) ≠ stackAddress (sp - 2#8) := by
  rw [ne_eq, ne_eq, stackAddress_inj, stackAddress_inj]
  bv_omega

/-- Settles O44: the three saved bytes stand at three places, no other is written, and PC is the
word at the vector, which no push reaches. -/
theorem brkResult : Obligations.BrkResult := by
  refine ⟨encodedAs_forms .brk, fun s => ?_, fun s => step_of_readByte_eq_zero⟩
  obtain ⟨-, -, -, hsp, hp, hpc, hconsole⟩ :=
    s.enterTrap_registers (s.pc + 1) Config.breakVector stackAddress_ne_breakVector
  obtain ⟨hhigh, hlow⟩ := stackAddress_ne_pred_pred s.sp
  refine ⟨s.enterTrap (s.pc + 1) Config.breakVector, rfl, ?_, ?_, ?_, fun ea h0 h1 h2 => ?_,
    hconsole, ?_, ?_, ?_, hpc⟩
  · rw [enterTrap_read, if_neg hhigh, if_neg (stackAddress_ne_pred s.sp), if_pos rfl]
    rfl
  · rw [enterTrap_read, if_neg hlow, if_pos rfl]
    rfl
  · rw [enterTrap_read, if_pos rfl]
    rfl
  · rw [enterTrap_read, if_neg h2, if_neg h1, if_neg h0]
  · rw [hsp]
    bv_omega
  · rw [hp, getFlag_setFlag, if_pos rfl]
  · exact (keepsAllBut_enterTrap s _ _).mono (by decide) (List.Subset.refl _)

/-! ## The return from the trap -/

theorem returnFromTrap_pc (s : State) :
    s.returnFromTrap.pc =
      Word.ofBytes (s.mem.read (stackAddress (s.sp + 3#8)))
        (s.mem.read (stackAddress (s.sp + 2#8))) := by
  simp only [State.returnFromTrap_eq, BitVec.add_assoc]
  rfl

theorem returnFromTrap_sp (s : State) : s.returnFromTrap.sp = s.sp + 3#8 := by
  rw [State.returnFromTrap_eq, BitVec.add_assoc, BitVec.add_assoc]
  rfl

/-- Settles O45: P is the first byte pulled, restored, and PC is the word pulled after it. -/
theorem rtiResult : Obligations.RtiResult := by
  refine ⟨encodedAs_forms .rti, fun s => ⟨s.returnFromTrap, rfl, rfl, ?_, returnFromTrap_sp s, ?_,
    keepsMemory_of_eq rfl rfl⟩⟩
  · rw [returnFromTrap_pc, Word.ofBytes_toNat, s.readByte_of_ne (stackAddress_ne_port _),
      s.readByte_of_ne (stackAddress_ne_port _)]
    omega
  · exact (keepsAllBut_returnFromTrap s).mono (by decide) (List.Subset.refl _)

end Sys2Proof.Machine
end

section
/-!
PROOFS. The exception round trip (60_exceptions.md section 3): a return from the trap undoes the
entry to it. The three bytes BRK saves are the ones RTI pulls, and a lawful status survives the
change of Break and Unused on the way through the stack.
-/

namespace Sys2Proof.Machine

/-- The pull undoes the push of a status whose Break is clear and whose Unused is set; of any other
status it would not (R33, R34). -/
theorem restoredStatus_pushedStatus {p : Byte} (hb : getFlag p .b = false)
    (hu : getFlag p .u = true) : restoredStatus (pushedStatus p) = p := by
  refine status_ext fun g => ?_
  rw [getFlag_restoredStatus, getFlag_pushedStatus]
  cases g with
  | b => simp [hb]
  | u => simp [hu]
  | _ => simp

theorem returnFromTrap_p (s : State) :
    s.returnFromTrap.p = restoredStatus (s.mem.read (stackAddress (s.sp + 1#8))) := by
  rw [State.returnFromTrap_eq]
  rfl

/-- Settles O46: RTI pulls from where BRK pushed, so PC is the saved word and P the saved status,
restored. -/
theorem breakThenReturn : Obligations.BreakThenReturn := by
  intro s hlawful
  obtain ⟨-, hb, hu⟩ := s.lawful_iff.mp hlawful
  obtain ⟨t, hexec, hthigh, htlow, htstatus, -, -, htsp, -⟩ := brkResult.2.1 s
  refine ⟨t, hexec, fun u husp huhigh hulow hustatus => ⟨u.returnFromTrap, rfl, ?_, ?_, ?_⟩⟩
  · have hhighAt : u.sp + 3#8 = s.sp := by rw [husp, htsp, BitVec.sub_add_cancel]
    have hlowAt : u.sp + 2#8 = s.sp - 1#8 := by rw [husp, htsp]; bv_omega
    calc u.returnFromTrap.pc
        = Word.ofBytes (s.pc + 1#16).highByte (s.pc + 1#16).lowByte := by
          rw [returnFromTrap_pc, hhighAt, hlowAt, huhigh, hulow, hthigh, htlow]
          rfl
      _ = s.pc + 1#16 := Word.ofBytes_bytes _
  · rw [returnFromTrap_sp, husp, htsp, BitVec.sub_add_cancel]
  · have hstatusAt : u.sp + 1#8 = s.sp - 2#8 := by rw [husp, htsp]; bv_omega
    calc u.returnFromTrap.p
        = restoredStatus (pushedStatus s.p) := by
          rw [returnFromTrap_p, hstatusAt, hustatus, htstatus]
          rfl
      _ = s.p := restoredStatus_pushedStatus hb hu

end Sys2Proof.Machine
end

section
/-!
PROOFS. The step (70_reset_and_hazards.md R221, R222, R228): it runs the instruction that the bytes
at PC decode to, it answers a next state from every state, and of its one operation only a store
through the write gate can emit a byte, the one it stores at the console port.
-/

namespace Sys2Proof.Machine

/-! ## One instruction, from every state -/

/-- Bytes that decode give the decoder's entry for them; the length test only rejects. -/
theorem eq_decodeOp_of_decode {b0 : Byte} {bytes rest : List Byte} {i : Instr}
    (h : decode (b0 :: bytes) = .ok (i, rest)) :
    i = decodeOp b0 (bytes.getD 0 0) (bytes.getD 1 0) := by
  simp only [decode] at h
  split at h
  · cases h
  · exact (Prod.mk.inj (Except.ok.inj h)).1.symm

/-- Settles O7: the instruction decoded is the one fetched, and the advance of PC is its length. -/
theorem stepRunsDecodedInstruction : Obligations.StepRunsDecodedInstruction := by
  intro s i rest hdecode
  obtain rfl : i = s.fetch := eq_decodeOp_of_decode hdecode
  exact step_eq s

/-- The step answers the effect of the instruction fetched, in the state whose PC has passed it. -/
theorem step_eq_effect (s : State) :
    step s = .next (effect s.fetch.shape (s.passInstr s.fetch)) :=
  exec_eq_effect s.fetch _

/-- Settles O8: every shape has an effect. -/
theorem stepIsTotal : Obligations.StepIsTotal := fun s => ⟨_, step_eq_effect s⟩

/-! ## The console byte of a step -/

/-- From `s` to `t` no byte was emitted, or one was, which `t` holds at the console port. -/
def EmitsAtMostStored (s t : State) : Prop :=
  t.console = s.console ∨ ∃ v, t.console = s.console ++ [v] ∧ t.mem.read 0xF001#16 = v

theorem KeepsMemory.emitsAtMostStored {s t : State} (h : KeepsMemory s t) :
    EmitsAtMostStored s t := .inl h.2

/-- A store emits its byte at the console port, where it stands, and nothing elsewhere (R44). -/
theorem StoresByte.emitsAtMostStored {ea : Word} {v : Byte} {s t : State}
    (h : StoresByte ea v s t) : EmitsAtMostStored s t := by
  obtain ⟨hstored, -, hconsole⟩ := h
  by_cases hport : ea = 0xF001#16
  · subst hport
    exact .inr ⟨v, hconsole.trans (if_pos rfl), hstored⟩
  · exact .inl (hconsole.trans (if_neg hport))

/-- The read-modify-write instructions on memory (R75): one store, then a new status, which touches
neither memory nor console. -/
theorem emitsAtMostStored_writeByte_setP (s : State) (ea : Word) (v q : Byte) :
    EmitsAtMostStored s ((s.writeByte ea v).setP q) :=
  (writeByte_storesByte s ea v).emitsAtMostStored

theorem emitsAtMostStored_shift (f : Byte → Bool → Byte × Bool) (o : Operand) (s : State) :
    EmitsAtMostStored s (shift f o s) := by
  unfold shift
  split
  · exact (keepsMemory_shiftA f s).emitsAtMostStored
  · exact emitsAtMostStored_writeByte_setP s _ _ _

/-- A trap entry emits nothing: its three bytes are pushed. -/
theorem enterTrap_console (s : State) (w vector : Word) :
    (s.enterTrap w vector).console = s.console := by
  simp [State.enterTrap]

/-- The writers of memory by what they do: one store, or pushes, which never reach the port. -/
theorem emitsAtMostStored_operation (mn : Mnemonic) (o : Operand) (s : State) :
    EmitsAtMostStored s (operation mn o s) := by
  cases mn with
  | sta | stx | sty => exact (writeByte_storesByte s _ _).emitsAtMostStored
  | inc | dec => exact emitsAtMostStored_writeByte_setP s _ _ _
  | asl | lsr | rol | ror => exact emitsAtMostStored_shift _ o s
  | pha | php => exact .inl (s.push8_console _)
  | jsr => exact .inl (s.push16_console _)
  | brk => exact .inl (enterTrap_console s _ _)
  | _ => exact (keepsMemory_operation (by decide) o s).emitsAtMostStored

/-- Settles O50: the step is one operation, and passing the instruction keeps the console. -/
theorem stepEmitsAtMostOneByte : Obligations.StepEmitsAtMostOneByte := by
  intro s t hstep
  obtain rfl := eq_effect_of_exec hstep
  cases s.fetch.shape with
  | unassigned b => exact .inl rfl
  | documented mn o => exact emitsAtMostStored_operation mn o (s.passInstr s.fetch)

end Sys2Proof.Machine
end

section
/-!
PROOFS. The loader's procedure (70_reset_and_hazards.md R224): what the image reads after a program
is stored over the reset vector in a cleared memory, and the reset that follows.
-/

namespace Sys2Proof.Machine

/-! ## Bytes stored from an address on -/

/-- The next place after the first `k` bytes from `w` is the place after `k` bytes from `w + 1`. -/
theorem add_ofNat_succ (w : Word) (k : Nat) :
    w + BitVec.ofNat 16 (k + 1) = w + 1 + BitVec.ofNat 16 k := by
  rw [Nat.add_comm, BitVec.ofNat_add, ← BitVec.add_assoc]
  rfl

/-- An address that none of the bytes goes to reads as before. -/
theorem Memory.read_writeBytes_of_ne {code : List Byte} {start ea : Word} (m : Memory)
    (h : ∀ k, k < code.length → ea ≠ start + BitVec.ofNat 16 k) :
    (m.writeBytes start code).read ea = m.read ea := by
  induction code generalizing m start with
  | nil => rfl
  | cons v vs ih =>
    have hhead : ea ≠ start := by simpa using h 0 (by simp)
    have htail : ∀ k, k < vs.length → ea ≠ start + 1 + BitVec.ofNat 16 k := fun k hk => by
      rw [← add_ofNat_succ]
      exact h (k + 1) (by simpa using hk)
    rw [Memory.writeBytes, ih _ htail, Memory.read_write, if_neg hhead]

/-- At most 65536 bytes do not reach round to the first of them, so each stands where it was
stored. -/
theorem Memory.read_writeBytes {code : List Byte} (m : Memory) (start : Word)
    (hlength : code.length ≤ 65536) {k : Nat} (hk : k < code.length) :
    (m.writeBytes start code).read (start + BitVec.ofNat 16 k) = code[k] := by
  induction code generalizing m start k with
  | nil => simp at hk
  | cons v vs ih =>
    rw [List.length_cons] at hlength hk
    cases k with
    | zero =>
      have hkept : ∀ j, j < vs.length → start ≠ start + 1 + BitVec.ofNat 16 j := fun j hj => by
        bv_omega
      rw [BitVec.add_zero, Memory.writeBytes, Memory.read_writeBytes_of_ne _ hkept,
        Memory.read_write, if_pos rfl]
      rfl
    | succ k =>
      rw [add_ofNat_succ]
      exact ih _ _ (by omega) (by omega)

/-! ## The loader -/

/-- Outside the program the image is cleared but for the two bytes of the reset vector. -/
theorem loadedImage_read_of_ne {code : List Byte} {start ea : Word}
    (h : ∀ k, k < code.length → ea ≠ start + BitVec.ofNat 16 k) :
    (loadedImage code start).read ea =
      if ea = 0xFFFC#16 then start.lowByte
      else if ea = 0xFFFD#16 then start.highByte else 0x00#8 := by
  rw [loadedImage, Memory.read_writeBytes_of_ne _ h, Memory.read_write, Memory.read_write,
    resetVector_succ]
  by_cases hlow : ea = 0xFFFC#16
  · subst hlow
    rfl
  · have hvector : ea ≠ Config.resetVector := hlow
    rw [if_neg hlow, if_neg hvector]
    rfl

/-- Settles O54: the image by the places of the program's bytes; registers, PC and console by what
`reset()` leaves. -/
theorem loaderProcedure : Obligations.LoaderProcedure := fun _ _ start hlength =>
  ⟨fun _ hk => Memory.read_writeBytes _ start hlength hk, fun _ hne => loadedImage_read_of_ne hne,
    rfl, rfl⟩

end Sys2Proof.Machine
end

section
/-!
PROOFS. Encoding and decoding undo each other (30_encoding.md R61 to R63, R76). Two facts carry it:
the decoder gives back every instruction from the front of its encoding, and what it reads is
encoded as the opcode byte and as many of the bytes after it as the instruction's length says.
-/

namespace Sys2Proof

theorem Instr.length_bounds (i : Instr) : 1 ≤ i.length ∧ i.length ≤ 3 := by
  have hlen : i.length = 1 ∨ i.length = 2 ∨ i.length = 3 := i.shape.length_eq_one_or_two_or_three
  omega

/-- What the decoder answers: the entry of the first byte, when the list holds its format, and the
bytes after it. -/
theorem decode_cons_eq_ok_iff {b0 : Byte} {bytes rest : List Byte} {i : Instr} :
    decode (b0 :: bytes) = .ok (i, rest) ↔
      decodeOp b0 (bytes.getD 0 0) (bytes.getD 1 0) = i ∧ i.length - 1 ≤ bytes.length ∧
        bytes.drop (i.length - 1) = rest := by
  simp only [decode]
  split
  · next hshort =>
    refine iff_of_false nofun fun ⟨hi, hlen, _⟩ => ?_
    rw [hi] at hshort
    omega
  · next hlong =>
    rw [Except.ok.injEq, Prod.mk.injEq]
    refine and_congr_right fun hi => ?_
    rw [hi] at hlong ⊢
    exact (and_iff_right (by omega)).symm

/-! ## From an instruction to its bytes and back -/

/-- The entry of an encoding's opcode byte gives the instruction encoded, from the operand's bytes
and whatever follows them. Only a 16-bit operand is put together again, from its two bytes (R63). -/
theorem decodeOp_of_encode {i : Instr} {b0 : Byte} {operand : List Byte}
    (h : encode i = b0 :: operand) (rest : List Byte) :
    decodeOp b0 ((operand ++ rest).getD 0 0) ((operand ++ rest).getD 1 0) = i := by
  cases i with
  | adcAbs a | adcAbsx a | adcAbsy a | andAbs a | andAbsx a | andAbsy a | aslAbs a | aslAbsx a
  | bitAbs a | cmpAbs a | cmpAbsx a | cmpAbsy a | cpxAbs a | cpyAbs a | decAbs a | decAbsx a
  | eorAbs a | eorAbsx a | eorAbsy a | incAbs a | incAbsx a | jmpAbs a | jmpInd a | jsr a | ldaAbs a
  | ldaAbsx a | ldaAbsy a | ldxAbs a | ldxAbsy a | ldyAbs a | ldyAbsx a | lsrAbs a | lsrAbsx a
  | oraAbs a | oraAbsx a | oraAbsy a | rolAbs a | rolAbsx a | rorAbs a | rorAbsx a | sbcAbs a
  | sbcAbsx a | sbcAbsy a | staAbs a | staAbsx a | staAbsy a | stxAbs a | styAbs a =>
    obtain ⟨rfl, rfl⟩ := List.cons.inj h
    exact congrArg _ a.ofBytes_bytes
  | _ =>
    obtain ⟨rfl, rfl⟩ := List.cons.inj h
    rfl

/-- An encoding is an opcode byte and the bytes by which the instruction is longer than one. -/
theorem encode_eq_cons (i : Instr) :
    ∃ b0 operand, encode i = b0 :: operand ∧ operand.length = i.length - 1 := by
  have hlen := encode_length i.wellFormed_eq_true
  cases henc : encode i with
  | nil =>
    have hpos := i.length_bounds
    rw [henc, List.length_nil] at hlen
    omega
  | cons b0 operand =>
    rw [henc, List.length_cons] at hlen
    exact ⟨b0, operand, rfl, by omega⟩

/-- Settles O1: the entry of the encoding's opcode byte is the instruction, and its length passes
over the operand's bytes to what follows. -/
theorem decodeOfEncode : Obligations.DecodeOfEncode := by
  intro i rest
  obtain ⟨b0, operand, henc, hlen⟩ := encode_eq_cons i
  rw [henc, List.cons_append]
  refine decode_cons_eq_ok_iff.mpr ⟨decodeOp_of_encode henc rest, ?_, ?_⟩
  · rw [List.length_append]
    omega
  · exact List.drop_left' hlen

/-! ## From bytes to an instruction and back -/

/-- What is read is encoded as the opcode byte and the operand bytes that its length counts. -/
theorem encode_decodeOp_eq_take (b0 b1 b2 : Byte) :
    encode (decodeOp b0 b1 b2) = b0 :: [b1, b2].take ((decodeOp b0 b1 b2).length - 1) := by
  obtain ⟨k, hk⟩ := encode_decodeOp b0 b1 b2
  have hlen : (decodeOp b0 b1 b2).length - 1 = min k [b1, b2].length := by
    rw [← encode_length (Instr.wellFormed_eq_true _), hk, List.length_cons, List.length_take,
      Nat.add_sub_cancel]
  rw [hk, hlen, ← List.take_eq_take_min]

/-- The two bytes the decoder looks at are the beginning of the list, as far as the list goes. -/
theorem take_getD_pair {bytes : List Byte} {n : Nat} (hn : n ≤ 2) (hlen : n ≤ bytes.length) :
    [bytes.getD 0 0, bytes.getD 1 0].take n = bytes.take n := by
  match bytes, n with
  | _, 0 => rfl
  | _ :: _, 1 => rfl
  | _ :: _ :: _, 2 => rfl

/-- Settles O2: the bytes after the opcode are those the encoding has and then the rest. -/
theorem encodeOfDecode : Obligations.EncodeOfDecode := by
  intro bytes i rest hdecode
  cases bytes with
  | nil => cases hdecode
  | cons b0 tail =>
    obtain ⟨rfl, hlen, rfl⟩ := decode_cons_eq_ok_iff.mp hdecode
    have hbounds := (decodeOp b0 (tail.getD 0 0) (tail.getD 1 0)).length_bounds
    rw [encode_decodeOp_eq_take, take_getD_pair (by omega) hlen, List.cons_append,
      List.take_append_drop]

end Sys2Proof
end

section
/-!
PROOFS. Sequences of pushes and pulls (95_test_vectors.md V1.6, 00_scope.md R13). A pull of many
bytes is a pull of all but one and then one more, the byte that was pushed first; the pushes after
that one go to at most 255 places below it and so do not wrap round to it.
-/

namespace Sys2Proof.Machine

/-- Pulling stores nothing. -/
@[simp] theorem pullMany_mem (n : Nat) (s : State) : (pullMany n s).2.mem = s.mem := by
  induction n generalizing s with
  | zero => rfl
  | succ n ih => exact ih s.pull8.2

/-- The last of several pulls, apart from the ones before it. -/
theorem pullMany_succ_last (n : Nat) (s : State) :
    pullMany (n + 1) s =
      ((pullMany n s).1 ++ [(pullMany n s).2.pull8.1], (pullMany n s).2.pull8.2) := by
  induction n generalizing s with
  | zero => rfl
  | succ n ih => rw [pullMany, ih]; rfl

/-- A place that none of the pushes goes to reads as before. -/
theorem pushAll_read_of_ne {vs : List Byte} {s : State} {ea : Word}
    (h : ∀ k, k < vs.length → ea ≠ stackAddress (s.sp - BitVec.ofNat 8 k)) :
    (pushAll vs s).mem.read ea = s.mem.read ea := by
  induction vs generalizing s with
  | nil => rfl
  | cons v vs ih =>
    have hhead : ea ≠ stackAddress s.sp := by simpa using h 0 (by simp)
    have htail : ∀ k, k < vs.length → ea ≠ stackAddress ((s.push8 v).sp - BitVec.ofNat 8 k) := by
      intro k hk
      have hsp : (s.push8 v).sp - BitVec.ofNat 8 k = s.sp - BitVec.ofNat 8 (k + 1) := by
        rw [State.push8_sp]
        bv_omega
      rw [hsp]
      exact h (k + 1) (by simpa using hk)
    rw [pushAll, ih htail, State.push8_mem, Memory.read_write, if_neg hhead]

/-- A byte pushed stands where SP named, under at most 255 pushes after it. -/
theorem pushAll_push8_read {vs : List Byte} (s : State) (v : Byte) (h : vs.length ≤ 255) :
    (pushAll vs (s.push8 v)).mem.read (stackAddress s.sp) = v := by
  have hbelow : ∀ k, k < vs.length →
      stackAddress s.sp ≠ stackAddress ((s.push8 v).sp - BitVec.ofNat 8 k) := fun k hk => by
    rw [Ne, stackAddress_inj, State.push8_sp]
    bv_omega
  rw [pushAll_read_of_ne hbelow, State.push8_mem, Memory.read_write, if_pos rfl]

/-- Settles O17, by induction on the bytes: the first byte pushed is the last one pulled. -/
theorem pushesThenPullsReverse : Obligations.PushesThenPullsReverse := by
  intro vs
  induction vs with
  | nil => exact fun _ _ => ⟨rfl, rfl⟩
  | cons v vs ih =>
    intro s hlen
    rw [List.length_cons] at hlen ⊢
    obtain ⟨hbytes, hsp⟩ := ih (s.push8 v) (by omega)
    have hsp_succ : (pullMany vs.length (pushAll vs (s.push8 v))).2.sp + 1 = s.sp := by
      rw [hsp, State.push8_sp, BitVec.sub_add_cancel]
    rw [pushAll, pullMany_succ_last, State.pull8_eq, hsp_succ, pullMany_mem,
      pushAll_push8_read s v (by omega), hbytes, List.reverse_cons]
    exact ⟨rfl, rfl⟩

end Sys2Proof.Machine
end

section
/-!
PROOFS. How a run begins (10_state.md R39, 70_reset_and_hazards.md R220, R224): the state after
reset is lawful, and an instruction word that the host stores at PC is what the next step runs.
-/

namespace Sys2Proof.Machine

/-- Settles O10: it is the state that `reset()` leaves from a cleared image. -/
theorem resetIsLawful : Obligations.ResetIsLawful := by
  have hreset : State.reset.resetEngine = State.reset := State.resetEngine_cleared _ rfl rfl
  have hlawful : State.reset.resetEngine.lawful = true := lawful_resetEngine rfl
  rwa [hreset] at hlawful

/-- A word that stands for an instruction is the front of a list of bytes that decodes to it. -/
theorem decode_of_decodeTableWord {nbits w : Nat} {i : Instr}
    (h : decodeTableWord nbits w = some i) :
    ∃ rest, decode (tableWordBytes nbits w) = .ok (i, rest) := by
  unfold decodeTableWord at h
  split at h
  · next rest hdecode => exact ⟨rest, Option.some.inj h ▸ hdecode⟩
  · cases h

/-- The word's instruction is the one fetched where the word was stored. -/
theorem fetch_of_decodeTableWord {nbits w : Nat} {i : Instr} (s : State)
    (h : decodeTableWord nbits w = some i) : (s.withFetchWord nbits w).fetch = i := by
  obtain ⟨rest, hdecode⟩ := decode_of_decodeTableWord h
  rw [State.fetch_withFetchWord]
  exact (eq_decodeOp_of_decode hdecode).symm

/-- Settles O11: the step runs what it fetches, after PC has passed it. -/
theorem storedWordRunsNext : Obligations.StoredWordRunsNext := by
  intro s nbits w i h
  rw [step_eq, fetch_of_decodeTableWord s h, State.passInstr]

end Sys2Proof.Machine
end
